-- ==== Sys2Proof/Word.lean ====
section
/-! DEFINITION. The one word type of the block: the byte of both frame formats. Everything that computes with
bytes (masks, the checksum, field extraction) stands in Machine/Operands.lean and Machine/Flags.lean. -/

namespace Sys2Proof

/-- A byte: an unsigned 8-bit value, bit 0 the least significant (00_scope.md R7). -/
abbrev Byte := BitVec 8

end Sys2Proof
end

