-- ==== Sys2Proof/Config.lean ====
section
/-! DEFINITION. The configuration record `Cfg` of 00_scope.md R5 (its OPEN parameters as fields, fixed at session
creation and never written afterwards), the literals the source itself fixes (as constants), the well-formedness
test of R6 that needs no string, and the free values: opaque constants for what 93_implementation_defined.md
leaves to the implementation. -/

namespace Sys2Proof

/-- Label ids of the primary state (30_encoding.md R57). `unknown` is id 0. -/
inductive Label where
  | unknown | idling | accepting | escrowed | stacking | stacked
  | returning | returned | stackedIdling | returnedIdling
  deriving DecidableEq, Repr

/-- The spec's own numbering of the label ids, 0 to 9 (30_encoding.md R57). -/
def Label.id : Label → Nat
  | .unknown => 0
  | .idling => 1
  | .accepting => 2
  | .escrowed => 3
  | .stacking => 4
  | .stacked => 5
  | .returning => 6
  | .returned => 7
  | .stackedIdling => 8
  | .returnedIdling => 9

/-- `CompositeStatus` as the triple of 30_encoding.md R62: label id, the four event flags (bit 0 cheated, bit 1
rejected, bit 2 jammed, bit 3 full) and the cassette-missing bit. Its string is `render` (Machine/Flags.lean). -/
structure Composite where
  label : Label
  ev : BitVec 4
  miss : Bool
  deriving DecidableEq, Repr

/-- The empty composite (0, 0b0000, 0), which renders as the empty string (30_encoding.md R62). -/
def Composite.empty : Composite := ⟨.unknown, 0, false⟩

/-- `STATE_CODE` (00_scope.md R5, 30_encoding.md R57): the nine keys, one per non-empty label. -/
structure StateCodes where
  idling : Byte
  accepting : Byte
  escrowed : Byte
  stacking : Byte
  stacked : Byte
  returning : Byte
  returned : Byte
  stackedIdling : Byte
  returnedIdling : Byte
  deriving DecidableEq, Repr

/-- The nine non-empty `LABEL` strings (30_encoding.md R58). -/
structure LabelTexts where
  idling : String
  accepting : String
  escrowed : String
  stacking : String
  stacked : String
  returning : String
  returned : String
  stackedIdling : String
  returnedIdling : String
  deriving DecidableEq, Repr

/-- The four `EV_LABEL` strings (30_encoding.md R60). -/
structure EventTexts where
  cheated : String
  rejected : String
  jammed : String
  full : String
  deriving DecidableEq, Repr

/-- The configuration record (00_scope.md R5): the parameters that 92_eei_decisions.md lists as open, and
`cntW`, the finite counter width of 93_implementation_defined.md U1 (`none` is the source's "unbounded"). -/
structure Cfg where
  stx : Byte
  len : Byte
  cmdPattern : Byte
  cmdByte : Byte
  escBase : Byte
  rsvd : Byte
  etx : Byte
  hsInit : Bool
  stateOff : Nat
  eventOff : Nat
  codes : StateCodes
  labels : LabelTexts
  evLabels : EventTexts
  cassetteMarker : String
  cntW : Option Nat
  rxDepth : Option Nat
  lastInit : Option Composite
  tTurnaround : Nat
  tPoll : Nat
  deriving DecidableEq, Repr

/-! The literals the source fixes (00_scope.md R5, grounds "source" and "derived"). -/

/-- `TX_LEN`: outbound frame length in bytes. -/
def txLen : Nat := 8
/-- `CK_LO`: first offset the checksum covers. -/
def ckLo : Nat := 1
/-- `CK_HI`: last offset the checksum covers. -/
def ckHi : Nat := 5
/-- `HS_MASK`: the handshake bit is bit 0 of offset 2. -/
def hsMask : Byte := 0x01
/-- `ESC_MASK`: the escrow-control bit of offset 4. -/
def escMask : Byte := 0x20
/-- `MIN_RX_LEN`: shortest inbound buffer that is parsed. -/
def minRxLen : Nat := 6
/-- `CREDIT_OFF`: inbound offset of the credit byte. -/
def creditOff : Nat := 5
/-- `ESCROW_MASK`: escrow bit of the primary-state byte. -/
def escrowMask : Byte := 0x04
/-- `ACCEPT_MASK`: accepting-class bit of the primary-state byte. -/
def acceptMask : Byte := 0x10
/-- `EV_CHEATED`. -/
def cheatedMask : Byte := 0x01
/-- `EV_REJECTED`. -/
def rejectedMask : Byte := 0x02
/-- `EV_JAMMED`. -/
def jammedMask : Byte := 0x04
/-- `EV_FULL`. -/
def fullMask : Byte := 0x08
/-- `CASSETTE_MASK`: cassette-present bit of the event byte. -/
def cassetteMask : Byte := 0x10
/-- `CREDIT_MASK`. -/
def creditMask : Byte := 0x38
/-- `CREDIT_SHIFT`. -/
def creditShift : Nat := 3

/-- The default `Cfg` of 00_scope.md R5. The outbound literals, the inbound offsets 3 and 4 and every state code
but 0x04 are the spec's "from general knowledge" defaults (93_implementation_defined.md G1, G3, G4); see log
entry 2 (PRESUMED and DESIGN CHOICE, unsafe). The two durations are the source's "~100 ms" in milliseconds. -/
def Cfg.default : Cfg where
  stx := 0x02
  len := 0x08
  cmdPattern := 0x10
  cmdByte := 0x7F
  escBase := 0x10
  rsvd := 0x00
  etx := 0x03
  hsInit := false
  stateOff := 3
  eventOff := 4
  codes :=
    { idling := 0x01, accepting := 0x02, escrowed := 0x04, stacking := 0x08, stacked := 0x10
      returning := 0x20, returned := 0x40, stackedIdling := 0x11, returnedIdling := 0x41 }
  labels :=
    { idling := "Idling ", accepting := "Accepting ", escrowed := "Escrowed ", stacking := "Stacking "
      stacked := "Stacked ", returning := "Returning ", returned := "Returned "
      stackedIdling := "Stacked Idling ", returnedIdling := "Returned Idling " }
  evLabels := { cheated := "Cheated ", rejected := "Rejected ", jammed := "Jammed ", full := "Full " }
  cassetteMarker := "CASSETTE MISSING"
  cntW := none
  rxDepth := none
  lastInit := some Composite.empty
  tTurnaround := 100
  tPoll := 100

/-- The nine keys of `STATE_CODE` in label-id order. -/
def StateCodes.all (k : StateCodes) : List Byte :=
  [k.idling, k.accepting, k.escrowed, k.stacking, k.stacked, k.returning, k.returned, k.stackedIdling,
    k.returnedIdling]

/-- The nine non-empty labels in label-id order. -/
def LabelTexts.all (t : LabelTexts) : List String :=
  [t.idling, t.accepting, t.escrowed, t.stacking, t.stacked, t.returning, t.returned, t.stackedIdling,
    t.returnedIdling]

/-- The part of 00_scope.md R6 that every rule relies on: the two variable bits are clear in their fixed
patterns, the three inbound offsets are distinct and inside the minimum buffer, `STATE_CODE` has nine distinct
keys with 0x04 for Escrowed, and `RX_DEPTH` holds a minimum frame. The rest of R6, about the strings, is
`Cfg.TextsWf` (WellFormed.lean). -/
def Cfg.wf (c : Cfg) : Bool :=
  c.cmdPattern &&& hsMask == 0 && c.escBase &&& escMask == 0
    && c.stateOff != c.eventOff && c.stateOff != creditOff && c.eventOff != creditOff
    && decide (c.stateOff < minRxLen) && decide (c.eventOff < minRxLen)
    && decide c.codes.all.Nodup && c.codes.escrowed == 0x04
    && (match c.rxDepth with
        | none => true
        | some d => decide (minRxLen ≤ d))

/-! Free values: nothing in Lean can evaluate these constants or prove a value of them. Each is applied to the
counter `State.draws`, which the operation that uses it advances. -/

/-- How many bytes of the frame reached `TXS` when a `TxWrite` failed: an unspecified prefix
(93_implementation_defined.md U4, 43_host_interface.md R130); `List.take` caps it at the frame's eight bytes.
DESIGN CHOICE, safe: log entry 5. -/
opaque Config.failedWritePrefix : Nat → Nat

/-- Which of the requested bytes a failing `RxRead` removed from `RXQ` (first argument the draw, second the
position in the queue): 43_host_interface.md R132 leaves it unspecified. DESIGN CHOICE and
DEDUCED, unsafe only for claims about the bytes that remain: log entry 6. -/
opaque Config.failedReadTakes : Nat → Nat → Bool

end Sys2Proof
end

