-- ==== Sys2Proof/Machine/Operands.lean ====
section
/-! DEFINITION. Operand forms: every byte the block assembles and every field it extracts. The outbound frame and
its checksum (30_encoding.md R50 to R53, 40_frame_codec.md R80 to R83), positional extraction from the inbound
buffer (R54, R84) and the credit field (R63, R95). Pure functions of their arguments and of `Cfg`. -/

namespace Sys2Proof

/-- `mask` when the bit is 1, nothing otherwise: the placement of `h` and `e` (R51). -/
def bitAt (b : Bool) (mask : Byte) : Byte := if b then mask else 0

/-- The test `(b & mask) != 0` used for every one-bit field (R56, R59). -/
def hasBit (b mask : Byte) : Bool := b &&& mask != 0

/-- CHECKSUM (R80): the exclusive-or fold of the bytes at offsets `CK_LO` to `CK_HI`. -/
def checksumOf (f : List Byte) : Byte := ((f.drop ckLo).take (ckHi - ckLo + 1)).foldl (· ^^^ ·) 0

/-- The eight bytes of an outbound frame with a given checksum byte (R50, R51; layout R31). -/
def outboundFrame (cfg : Cfg) (h e : Bool) (ck : Byte) : Vector Byte 8 :=
  #v[cfg.stx, cfg.len, cfg.cmdPattern ||| bitAt h hsMask, cfg.cmdByte, cfg.escBase ||| bitAt e escMask, cfg.rsvd,
    cfg.etx, ck]

/-- The checksum byte that belongs to an outbound frame (R52). -/
def frameChecksum (cfg : Cfg) (h e : Bool) : Byte := checksumOf (outboundFrame cfg h e 0).toList

/-- BUILD_OUTBOUND (R82). -/
def buildOutboundFrame (cfg : Cfg) (h e : Bool) : Vector Byte 8 := outboundFrame cfg h e (frameChecksum cfg h e)

/-- The document's `InboundFrame`: the three bytes the block reads (R84). -/
structure InboundFrame where
  state : Byte
  event : Byte
  credit : Byte
  deriving DecidableEq, Repr

/-- The result of PARSE_INBOUND: a frame, or the error FrameTooShort with the buffer's length (R84, R141). -/
inductive Parsed where
  | frame (f : InboundFrame)
  | tooShort (n : Nat)
  deriving DecidableEq, Repr

/-- PARSE_INBOUND (R84): six bytes are required and three are read, by position. With a well-formed `Cfg` the
offsets are inside the six bytes; a `Cfg` whose offsets are not gives the same error, its cause being "inbound byte
sequence lacks required offsets" (R141). -/
def parseInboundBytes (cfg : Cfg) (b : List Byte) : Parsed :=
  if b.length < minRxLen then .tooShort b.length
  else
    match b[cfg.stateOff]?, b[cfg.eventOff]?, b[creditOff]? with
    | some st, some ev, some cr => .frame ⟨st, ev, cr⟩
    | _, _, _ => .tooShort b.length

/-- CREDIT_DENOM (R95): `(c & 0x38) >> 3`, a counter index 0 to 7. -/
def creditDenomOf (c : Byte) : Fin 8 := Fin.ofNat 8 ((c &&& creditMask) >>> creditShift).toNat

end Sys2Proof
end

