-- ==== Sys2Proof/Machine/Flags.lean ====
section
/-! DEFINITION. Flag computations: the Status Interpreter (41_status_interpreter.md R90 to R97), the label and code
tables (30_encoding.md R57 to R61) and the rendering of a composite status (R62). Every flag is a pure function of
the inbound bytes (10_state.md R20). -/

namespace Sys2Proof

/-- The byte that is the key of a label in `STATE_CODE`; none for the unknown label (R57). -/
def codeOf (cfg : Cfg) : Label → Option Byte
  | .unknown => none
  | .idling => some cfg.codes.idling
  | .accepting => some cfg.codes.accepting
  | .escrowed => some cfg.codes.escrowed
  | .stacking => some cfg.codes.stacking
  | .stacked => some cfg.codes.stacked
  | .returning => some cfg.codes.returning
  | .returned => some cfg.codes.returned
  | .stackedIdling => some cfg.codes.stackedIdling
  | .returnedIdling => some cfg.codes.returnedIdling

/-- The lookup of a primary-state byte in `STATE_CODE`, by exact value (R56 a, R57). -/
def labelOf (cfg : Cfg) (s : Byte) : Label :=
  if s = cfg.codes.idling then .idling
  else if s = cfg.codes.accepting then .accepting
  else if s = cfg.codes.escrowed then .escrowed
  else if s = cfg.codes.stacking then .stacking
  else if s = cfg.codes.stacked then .stacked
  else if s = cfg.codes.returning then .returning
  else if s = cfg.codes.returned then .returned
  else if s = cfg.codes.stackedIdling then .stackedIdling
  else if s = cfg.codes.returnedIdling then .returnedIdling
  else .unknown

/-- `LABEL[id]` (R58); the label of an unknown code is the empty string. -/
def labelText (cfg : Cfg) : Label → String
  | .unknown => ""
  | .idling => cfg.labels.idling
  | .accepting => cfg.labels.accepting
  | .escrowed => cfg.labels.escrowed
  | .stacking => cfg.labels.stacking
  | .stacked => cfg.labels.stacked
  | .returning => cfg.labels.returning
  | .returned => cfg.labels.returned
  | .stackedIdling => cfg.labels.stackedIdling
  | .returnedIdling => cfg.labels.returnedIdling

/-- The byte of an UnknownPrimaryState diagnostic, when PRIMARY_LABEL gives one (R90). -/
def unknownStateByte (cfg : Cfg) (s : Byte) : Option Byte :=
  if labelOf cfg s = .unknown then some s else none

/-- ESCROW_DETECT (R91). -/
def escrowBit (s : Byte) : Bool := hasBit s escrowMask

/-- ACCEPT_CLASS (R97). -/
def acceptBit (s : Byte) : Bool := hasBit s acceptMask

/-- The four event flags, `e & 0x0F` (R92). -/
def eventFlags (e : Byte) : BitVec 4 := e.setWidth 4

/-- The string of four event flags, in the fixed order 1, 2, 4, 8 (R60, R92). -/
def eventText (cfg : Cfg) (ev : BitVec 4) : String :=
  (if ev.getLsbD 0 then cfg.evLabels.cheated else "") ++ (if ev.getLsbD 1 then cfg.evLabels.rejected else "")
    ++ (if ev.getLsbD 2 then cfg.evLabels.jammed else "") ++ (if ev.getLsbD 3 then cfg.evLabels.full else "")

/-- CASSETTE_MARK's bit (R93): missing exactly when `e & 0x10 == 0`. -/
def cassetteMissing (e : Byte) : Bool := !hasBit e cassetteMask

/-- CASSETTE_MARK's rendering (R93, R61). -/
def markerText (cfg : Cfg) (miss : Bool) : String := if miss then cfg.cassetteMarker else ""

/-- The string of a composite status (R62): primary label, event labels, cassette-missing marker. -/
def render (cfg : Cfg) (c : Composite) : String :=
  labelText cfg c.label ++ eventText cfg c.ev ++ markerText cfg c.miss

/-- The composite of DESCRIBE (R94). -/
def describeStatus (cfg : Cfg) (s e : Byte) : Composite := ⟨labelOf cfg s, eventFlags e, cassetteMissing e⟩

/-- Phase S7's test (R108): nothing reported yet, or a composite whose string differs from the last one. The
strings are compared, which is the normative form when 41_status_interpreter.md R96 fails. -/
def statusChanged (cfg : Cfg) (last : Option Composite) (st : Composite) : Bool :=
  match last with
  | none => true
  | some l => render cfg st != render cfg l

end Sys2Proof
end

