-- ==== Sys2Proof/Syntax.lean ====
section
/-! DEFINITION. The syntax: one constructor of `Instr` per row of spec/opcode_table.json (49 rows), and `Port`, the
context in which a word of that table is read. The block has no instruction set (00_scope.md R1); a row is a frame
format, a codec or interpreter function, a code or tested bit of an inbound byte, a sequencer phase or a host
command, and words of different formats overlap, so a word has a meaning only at its port (DESIGN CHOICE, safe: log
entry 3). -/

namespace Sys2Proof

/-- The operations of the block, in the order of spec/opcode_table.json. -/
inductive Instr where
  /-- POLL: the outbound frame with handshake bit `h`, escrow-control bit `e`, checksum byte `c` (R50). -/
  | poll (h e : Bool) (c : Byte)
  /-- STATUS: an inbound status frame of six or more bytes (R54). -/
  | status (frame : List Byte)
  /-- CHECKSUM of a sequence of at least six bytes (R80). -/
  | checksum (f : List Byte)
  /-- BUILD_OUTBOUND of a handshake bit and an escrow bit (R82). -/
  | buildOutbound (h e : Bool)
  /-- PARSE_INBOUND of any byte sequence (R84). -/
  | parseInbound (b : List Byte)
  /-- PRIMARY_LABEL of a primary-state byte (R90). -/
  | primaryLabel (s : Byte)
  /-- ESCROW_DETECT of a primary-state byte (R91). -/
  | escrowDetect (s : Byte)
  /-- EVENT_LABELS of an event byte (R92). -/
  | eventLabels (e : Byte)
  /-- CASSETTE_MARK of an event byte (R93). -/
  | cassetteMark (e : Byte)
  /-- DESCRIBE of a primary-state byte and an event byte (R94). -/
  | describe (s e : Byte)
  /-- CREDIT_DENOM of a credit byte (R95). -/
  | creditDenom (c : Byte)
  /-- ACCEPT_CLASS of a primary-state byte (R97). -/
  | acceptClass (s : Byte)
  /-- ST_IDLING: the primary-state byte is the code of Idling (R57). -/
  | stIdling
  /-- ST_ACCEPTING (R57). -/
  | stAccepting
  /-- ST_ESCROWED (R57). -/
  | stEscrowed
  /-- ST_STACKING (R57). -/
  | stStacking
  /-- ST_STACKED (R57). -/
  | stStacked
  /-- ST_RETURNING (R57). -/
  | stReturning
  /-- ST_RETURNED (R57). -/
  | stReturned
  /-- ST_STACKED_IDLING (R57). -/
  | stStackedIdling
  /-- ST_RETURNED_IDLING (R57). -/
  | stReturnedIdling
  /-- ST_UNKNOWN: a primary-state byte that is none of the nine codes (R57). -/
  | stUnknown (s : Byte)
  /-- ST_ESCROW_BIT: bit 0x04 of the raw primary-state byte (R56). -/
  | stEscrowBit (s : Byte)
  /-- ST_ACCEPT_CLASS_BIT: bit 0x10 of the raw primary-state byte (R56). -/
  | stAcceptClassBit (s : Byte)
  /-- EV_CHEATED: bit 0x01 of the event byte (R59). -/
  | evCheated (e : Byte)
  /-- EV_REJECTED: bit 0x02 of the event byte (R59). -/
  | evRejected (e : Byte)
  /-- EV_JAMMED: bit 0x04 of the event byte (R59). -/
  | evJammed (e : Byte)
  /-- EV_FULL: bit 0x08 of the event byte (R59). -/
  | evFull (e : Byte)
  /-- EV_CASSETTE_PRESENT: bit 0x10 of the event byte (R59). -/
  | evCassettePresent (e : Byte)
  /-- EV_IGNORED: bits 7:5 of the event byte (R64). -/
  | evIgnored (e : Byte)
  /-- CR_DENOMINATION: bits 5:3 of the credit byte (R63). -/
  | crDenomination (c : Byte)
  /-- S0_TEST_RUN (R101). -/
  | s0TestRun
  /-- S1_BUILD (R102). -/
  | s1Build
  /-- S2_FLIP_HS (R103). -/
  | s2FlipHs
  /-- S3_WRITE_WAIT (R104). -/
  | s3WriteWait
  /-- S4_DRAIN (R105). -/
  | s4Drain
  /-- S5_PARSE (R106). -/
  | s5Parse
  /-- S6_INTERPRET (R107). -/
  | s6Interpret
  /-- S7_CHANGE_DETECT (R108). -/
  | s7ChangeDetect
  /-- S8_TRACE (R109). -/
  | s8Trace
  /-- S9_CREDIT (R110). -/
  | s9Credit
  /-- S10_SLEEP (R111). -/
  | s10Sleep
  /-- EXIT_CLOSE (R112). -/
  | exitClose
  /-- STOPPED, a terminal value of `PHASE` (R113). -/
  | stopped
  /-- FAULTED, a terminal value of `PHASE` (R113). -/
  | faulted
  /-- SET_ESCROW_INTENT(a) (R121). -/
  | setEscrowIntent (a : Bool)
  /-- SET_VERBOSE(a) (R122). -/
  | setVerbose (a : Bool)
  /-- REQUEST_STOP (R123); `x` is the ignored argument bit of its code `10x`. -/
  | requestStop (x : Bool)
  /-- BLOCK_UNTIL_STOPPED (R124); `x` is the ignored argument bit of its code `11x`. -/
  | blockUntilStopped (x : Bool)
  deriving DecidableEq, Repr

/-- Where a word is read: the column "format" of spec/opcode_table.json, one port per function and one per reading
of an inbound byte (R56: the primary-state byte is read three independent ways; R59: each event field by its own
mask). -/
inductive Port where
  | out8 | in6
  | checksum | buildOutbound | parseInbound | primaryLabel | escrowDetect | eventLabels | cassetteMark | describe
  | creditDenom | acceptClass
  | stateCode | stateEscrowBit | stateAcceptClassBit
  | evCheated | evRejected | evJammed | evFull | evCassettePresent | evIgnored
  | creditByte
  | phase | hostCmd
  deriving DecidableEq, Repr

/-- The ports of the combinational operations (00_scope.md R2: codec and interpreter): everything but the two
frame formats, the `PHASE` register and the host command port. -/
def Port.isCombinational : Port → Bool
  | .out8 | .in6 | .phase | .hostCmd => false
  | _ => true

end Sys2Proof
end

