-- ==== Sys2Proof/WellFormed.lean ====
section
/-! DEFINITION. Well-formed instructions: an operand sequence long enough, a checksum byte that belongs to its frame,
an unknown state byte that is none of the nine codes. And the part of 00_scope.md R6 that speaks of strings. -/

namespace Sys2Proof

/-- Whether an instruction's operands are among those its row of the table has, for the session's `Cfg`: a POLL
frame carries its own checksum (R50, R52), a STATUS frame has six bytes or more (R54), CHECKSUM's operand has at
least six (R80), and ST_UNKNOWN's byte is no key of `STATE_CODE` (R57). Every other operand is unrestricted. -/
def Instr.wf (cfg : Cfg) : Instr → Bool
  | .poll h e c => c == frameChecksum cfg h e
  | .status f => decide (minRxLen ≤ f.length)
  | .checksum f => decide (ckHi < f.length)
  | .stUnknown s => decide (labelOf cfg s = .unknown)
  | .buildOutbound _ _ | .parseInbound _ | .primaryLabel _ | .escrowDetect _ | .eventLabels _ | .cassetteMark _
  | .describe _ _ | .creditDenom _ | .acceptClass _ => true
  | .stIdling | .stAccepting | .stEscrowed | .stStacking | .stStacked | .stReturning | .stReturned
  | .stStackedIdling | .stReturnedIdling | .stEscrowBit _ | .stAcceptClassBit _ => true
  | .evCheated _ | .evRejected _ | .evJammed _ | .evFull _ | .evCassettePresent _ | .evIgnored _ => true
  | .crDenomination _ => true
  | .s0TestRun | .s1Build | .s2FlipHs | .s3WriteWait | .s4Drain | .s5Parse | .s6Interpret | .s7ChangeDetect
  | .s8Trace | .s9Credit | .s10Sleep | .exitClose | .stopped | .faulted => true
  | .setEscrowIntent _ | .setVerbose _ | .requestStop _ | .blockUntilStopped _ => true

/-- Unique decomposition (41_status_interpreter.md R96): the string determines the triple. -/
def Cfg.UniqueDecomposition (cfg : Cfg) : Prop :=
  ∀ t u : Composite, render cfg t = render cfg u → t = u

/-- The string constraints of 00_scope.md R6: the nine labels are distinct and non-empty, and with the event
labels and the marker they decompose uniquely. No meaning depends on it: S7 compares strings (D8). -/
def Cfg.TextsWf (cfg : Cfg) : Prop :=
  cfg.labels.all.Nodup ∧ "" ∉ cfg.labels.all ∧ cfg.UniqueDecomposition

end Sys2Proof
end

