-- ==== Sys2Proof/Decode.lean ====
section
/-! DEFINITION. The decoder, total on any bytes at any port and rejecting by name, and after it the encoder, written
from the same tables: 30_encoding.md R50 (OUT8), R54 (IN6+), R57 (state codes), R59, R63 (tested fields), R66
(PHASE codes), R67 (host command codes), and the operand bytes of each function (40, 41). -/

namespace Sys2Proof

/-- Why a word is no instruction at its port. -/
inductive DecodeError where
  /-- The word does not have the number of bytes its row has. -/
  | wrongLength (n : Nat)
  /-- The fixed byte at this offset of an outbound frame is not `Cfg`'s literal (R50). -/
  | fixedByte (offset : Nat)
  /-- A result frame of BUILD_OUTBOUND whose last byte is not its checksum (R52). -/
  | badChecksum
  /-- Fewer bytes than the row's minimum (R54, R80). -/
  | tooShort (n : Nat)
  /-- `PHASE` codes 14 and 15 are unused; a larger value has no 4-bit code (R66). -/
  | reservedPhase (code : Byte)
  /-- A host command has three bits (R67). -/
  | reservedHostCode (code : Byte)
  deriving DecidableEq, Repr

/-- The result of decoding. -/
inductive Decoded where
  | instr (i : Instr)
  | error (e : DecodeError)
  deriving DecidableEq, Repr

/-- The variable bits of an outbound frame: handshake bit, escrow-control bit, checksum byte. -/
structure OutboundFields where
  h : Bool
  e : Bool
  c : Byte
  deriving DecidableEq, Repr

/-- Reads an outbound frame, or names the first offset whose fixed bits differ from `Cfg` (R50, R51). -/
def readOutbound (cfg : Cfg) : List Byte → OutboundFields ⊕ DecodeError
  | [b0, b1, b2, b3, b4, b5, b6, b7] =>
    if b0 ≠ cfg.stx then .inr (.fixedByte 0)
    else if b1 ≠ cfg.len then .inr (.fixedByte 1)
    else if b2 &&& ~~~hsMask ≠ cfg.cmdPattern then .inr (.fixedByte 2)
    else if b3 ≠ cfg.cmdByte then .inr (.fixedByte 3)
    else if b4 &&& ~~~escMask ≠ cfg.escBase then .inr (.fixedByte 4)
    else if b5 ≠ cfg.rsvd then .inr (.fixedByte 5)
    else if b6 ≠ cfg.etx then .inr (.fixedByte 6)
    else .inl ⟨hasBit b2 hsMask, hasBit b4 escMask, b7⟩
  | bs => .inr (.wrongLength bs.length)

/-- A row whose operand is one byte. -/
def decodeByte (mk : Byte → Instr) : List Byte → Decoded
  | [b] => .instr (mk b)
  | bs => .error (.wrongLength bs.length)

/-- The row of a primary-state byte read as a whole (R57). -/
def stateInstr (cfg : Cfg) (s : Byte) : Instr :=
  match labelOf cfg s with
  | .unknown => .stUnknown s
  | .idling => .stIdling
  | .accepting => .stAccepting
  | .escrowed => .stEscrowed
  | .stacking => .stStacking
  | .stacked => .stStacked
  | .returning => .stReturning
  | .returned => .stReturned
  | .stackedIdling => .stStackedIdling
  | .returnedIdling => .stReturnedIdling

/-- The operation a value of `PHASE` names (R66). -/
def phaseInstr (b : Byte) : Decoded :=
  match b.toNat with
  | 0 => .instr .s0TestRun
  | 1 => .instr .s1Build
  | 2 => .instr .s2FlipHs
  | 3 => .instr .s3WriteWait
  | 4 => .instr .s4Drain
  | 5 => .instr .s5Parse
  | 6 => .instr .s6Interpret
  | 7 => .instr .s7ChangeDetect
  | 8 => .instr .s8Trace
  | 9 => .instr .s9Credit
  | 10 => .instr .s10Sleep
  | 11 => .instr .exitClose
  | 12 => .instr .stopped
  | 13 => .instr .faulted
  | _ => .error (.reservedPhase b)

/-- The host command of a 3-bit code `cmd[1:0]`, `a` (R67). -/
def hostInstr (b : Byte) : Decoded :=
  if 8 ≤ b.toNat then .error (.reservedHostCode b)
  else
    let a := b.getLsbD 0
    match b.getLsbD 2, b.getLsbD 1 with
    | false, false => .instr (.setEscrowIntent a)
    | false, true => .instr (.setVerbose a)
    | true, false => .instr (.requestStop a)
    | true, true => .instr (.blockUntilStopped a)

/-- The decoder: the instruction that a byte sequence is at a port, or the reason it is none. -/
def decode (cfg : Cfg) (p : Port) (bs : List Byte) : Decoded :=
  match p with
  | .out8 =>
    match readOutbound cfg bs with
    | .inl f => .instr (.poll f.h f.e f.c)
    | .inr err => .error err
  | .in6 => if bs.length < minRxLen then .error (.tooShort bs.length) else .instr (.status bs)
  | .checksum => if bs.length ≤ ckHi then .error (.tooShort bs.length) else .instr (.checksum bs)
  | .buildOutbound =>
    match readOutbound cfg bs with
    | .inl f => if f.c = frameChecksum cfg f.h f.e then .instr (.buildOutbound f.h f.e) else .error .badChecksum
    | .inr err => .error err
  | .parseInbound => .instr (.parseInbound bs)
  | .primaryLabel => decodeByte .primaryLabel bs
  | .escrowDetect => decodeByte .escrowDetect bs
  | .eventLabels => decodeByte .eventLabels bs
  | .cassetteMark => decodeByte .cassetteMark bs
  | .describe =>
    match bs with
    | [s, e] => .instr (.describe s e)
    | _ => .error (.wrongLength bs.length)
  | .creditDenom => decodeByte .creditDenom bs
  | .acceptClass => decodeByte .acceptClass bs
  | .stateCode => decodeByte (stateInstr cfg) bs
  | .stateEscrowBit => decodeByte .stEscrowBit bs
  | .stateAcceptClassBit => decodeByte .stAcceptClassBit bs
  | .evCheated => decodeByte .evCheated bs
  | .evRejected => decodeByte .evRejected bs
  | .evJammed => decodeByte .evJammed bs
  | .evFull => decodeByte .evFull bs
  | .evCassettePresent => decodeByte .evCassettePresent bs
  | .evIgnored => decodeByte .evIgnored bs
  | .creditByte => decodeByte .crDenomination bs
  | .phase =>
    match bs with
    | [b] => phaseInstr b
    | _ => .error (.wrongLength bs.length)
  | .hostCmd =>
    match bs with
    | [b] => hostInstr b
    | _ => .error (.wrongLength bs.length)

/-- The first `n` bytes of a number, least significant first: byte `k` is bits `8k+7` to `8k`. -/
def bytesOfNat : Nat → Nat → List Byte
  | 0, _ => []
  | n + 1, w => BitVec.ofNat 8 w :: bytesOfNat n (w / 256)

/-- The instruction this decoder reads from a word of spec/opcode_table.json. The table's words overlap (an 8-bit
word belongs to up to thirty rows), so the width and, for one byte, the value choose the port: 64 bits an outbound
frame (offset 0 in the low byte; the row's drawing read as one number has offset 0 in the top byte, and a word that
is a frame only that way round is taken so); 48 bits an inbound frame; 16 bits DESCRIBE; 3 bits a host command; 4
bits a `PHASE` code; 8 bits a `PHASE` code where the value is one (it is what the sequencer fetches) and a
primary-state byte otherwise. Every row is decoded at its own port by `decode`. DESIGN CHOICE, safe: log entry 3. -/
def decodeTableWord (nbits w : Nat) : Option Instr :=
  let readAs (p : Port) (n : Nat) : Option Instr :=
    match decode Cfg.default p (bytesOfNat n w) with
    | .instr i => some i
    | .error _ => none
  match nbits with
  | 64 =>
    match readAs .out8 8, decode Cfg.default .out8 (bytesOfNat 8 w).reverse with
    | none, .instr i => some i
    | r, _ => r
  | 48 => readAs .in6 6
  | 16 => readAs .describe 2
  | 3 => readAs .hostCmd 1
  | 4 => readAs .phase 1
  | 8 => if w < 14 then readAs .phase 1 else readAs .stateCode 1
  | _ => none

/-! The encoder. -/

/-- One byte with the low bit `a` under the two command bits (R67). -/
def hostByte (cmd : Byte) (a : Bool) : Byte := cmd ||| bitAt a 0x01

/-- The code byte of a label; the operand itself stands for an unknown one. -/
def stateBytes (cfg : Cfg) (l : Label) : List Byte := (codeOf cfg l).toList

/-- The port of an instruction and its bytes there. -/
def encode (cfg : Cfg) : Instr → Port × List Byte
  | .poll h e c => (.out8, (outboundFrame cfg h e c).toList)
  | .status f => (.in6, f)
  | .checksum f => (.checksum, f)
  | .buildOutbound h e => (.buildOutbound, (buildOutboundFrame cfg h e).toList)
  | .parseInbound b => (.parseInbound, b)
  | .primaryLabel s => (.primaryLabel, [s])
  | .escrowDetect s => (.escrowDetect, [s])
  | .eventLabels e => (.eventLabels, [e])
  | .cassetteMark e => (.cassetteMark, [e])
  | .describe s e => (.describe, [s, e])
  | .creditDenom c => (.creditDenom, [c])
  | .acceptClass s => (.acceptClass, [s])
  | .stIdling => (.stateCode, stateBytes cfg .idling)
  | .stAccepting => (.stateCode, stateBytes cfg .accepting)
  | .stEscrowed => (.stateCode, stateBytes cfg .escrowed)
  | .stStacking => (.stateCode, stateBytes cfg .stacking)
  | .stStacked => (.stateCode, stateBytes cfg .stacked)
  | .stReturning => (.stateCode, stateBytes cfg .returning)
  | .stReturned => (.stateCode, stateBytes cfg .returned)
  | .stStackedIdling => (.stateCode, stateBytes cfg .stackedIdling)
  | .stReturnedIdling => (.stateCode, stateBytes cfg .returnedIdling)
  | .stUnknown s => (.stateCode, [s])
  | .stEscrowBit s => (.stateEscrowBit, [s])
  | .stAcceptClassBit s => (.stateAcceptClassBit, [s])
  | .evCheated e => (.evCheated, [e])
  | .evRejected e => (.evRejected, [e])
  | .evJammed e => (.evJammed, [e])
  | .evFull e => (.evFull, [e])
  | .evCassettePresent e => (.evCassettePresent, [e])
  | .evIgnored e => (.evIgnored, [e])
  | .crDenomination c => (.creditByte, [c])
  | .s0TestRun => (.phase, [0])
  | .s1Build => (.phase, [1])
  | .s2FlipHs => (.phase, [2])
  | .s3WriteWait => (.phase, [3])
  | .s4Drain => (.phase, [4])
  | .s5Parse => (.phase, [5])
  | .s6Interpret => (.phase, [6])
  | .s7ChangeDetect => (.phase, [7])
  | .s8Trace => (.phase, [8])
  | .s9Credit => (.phase, [9])
  | .s10Sleep => (.phase, [10])
  | .exitClose => (.phase, [11])
  | .stopped => (.phase, [12])
  | .faulted => (.phase, [13])
  | .setEscrowIntent a => (.hostCmd, [hostByte 0x00 a])
  | .setVerbose a => (.hostCmd, [hostByte 0x02 a])
  | .requestStop x => (.hostCmd, [hostByte 0x04 x])
  | .blockUntilStopped x => (.hostCmd, [hostByte 0x06 x])

end Sys2Proof
end

