-- ==== Sys2Proof/Machine/State.lean ====
section
/-! DEFINITION. The state of the block as plain data (10_state.md R10 to R24, 20_memory.md R30), the environment's
state the block is observed through (R23), the model's own fields (DESIGN CHOICE, log entries 4, 8, 12, 13), the reset state, and the
reasons a step can stop. -/

namespace Sys2Proof.Machine

/-- `PHASE`, the block's program counter: fourteen values (10_state.md R17). -/
inductive Phase where
  | s0 | s1 | s2 | s3 | s4 | s5 | s6 | s7 | s8 | s9 | s10 | exit | stopped | faulted
  deriving DecidableEq, Repr

/-- The 4-bit code of a phase (30_encoding.md R66). -/
def Phase.code : Phase → Byte
  | .s0 => 0
  | .s1 => 1
  | .s2 => 2
  | .s3 => 3
  | .s4 => 4
  | .s5 => 5
  | .s6 => 6
  | .s7 => 7
  | .s8 => 8
  | .s9 => 9
  | .s10 => 10
  | .exit => 11
  | .stopped => 12
  | .faulted => 13

/-- STOPPED and FAULTED, the two terminal values (R113). -/
def Phase.isTerminal : Phase → Bool
  | .stopped | .faulted => true
  | _ => false

/-- The four transport operations (43_host_interface.md R130 to R133); also the value of `FATAL` (R21). -/
inductive TransportOp where
  | txWrite | rxAvail | rxRead | close
  deriving DecidableEq, Repr

/-- The three kinds of diagnostic (30_encoding.md R69). There is none for UnknownEventCode (60_exceptions.md R143). -/
inductive Diagnostic where
  | frameTooShort (n : Nat)
  | unknownPrimaryState (b : Byte)
  | trace (bytes : List Byte)
  deriving DecidableEq, Repr

/-- Output events (30_encoding.md R69, 43_host_interface.md R126 to R129). -/
inductive Event where
  | statusChange (c : Composite)
  | billCredited (d : Fin 8) (counts : Vector Nat 8)
  | diagnostic (k : Diagnostic)
  | fatal (op : TransportOp)
  deriving DecidableEq, Repr

/-- The buffers, which play the part of memory (20_memory.md R30): `TXBUF`, `RXBUF` and `RXLEN`. -/
structure Memory where
  txbuf : Vector Byte 8
  rxbuf : List Byte
  rxlen : Nat
  deriving DecidableEq, Repr

/-- The form every buffer operation keeps: `RXLEN` counts bytes that `RXBUF` holds (R30: offsets 0 to `RXLEN` - 1).
The lists hold exactly the bytes stored, in offset order, so equal buffers are equal data. -/
def Memory.wf (m : Memory) : Bool := decide (m.rxlen ≤ m.rxbuf.length)

/-- What the transport answers to the next invocation of each operation: fails or succeeds (93 U6). Environment
state: only an environment turn changes it. -/
structure Answers where
  txWriteFails : Bool
  rxAvailFails : Bool
  rxReadFails : Bool
  closeFails : Bool
  deriving DecidableEq, Repr

/-- One turn of the interleaving of the agents (00_scope.md R9, 20_memory.md R41). -/
inductive Turn where
  /-- The session worker performs the operation that `PHASE` names. -/
  | worker
  /-- The host issues its next command. -/
  | host
  /-- The environment appends bytes to `RXQ` (R37). -/
  | arrive (bytes : List Byte)
  /-- The environment decides which transport operations fail from now on (U6). -/
  | transport (a : Answers)
  /-- Time passes (R22); no other field depends on it. -/
  | elapse (ms : Nat)
  /-- A combinational operation is evaluated on operand bytes (DESIGN CHOICE, safe: log entry 4). -/
  | operate (p : Port) (bytes : List Byte)
  deriving DecidableEq, Repr

/-- The reading of a primary-state byte, one row of the table of 30_encoding.md R57. -/
structure StateReading where
  byte : Byte
  label : Label
  text : String
  escrow : Bool
  accept : Bool
  diag : Option Byte
  deriving DecidableEq, Repr

/-- The result of the last combinational operation (DESIGN CHOICE, safe: log entry 4). -/
inductive Ret where
  | nothing
  | byte (b : Byte)
  | frame (f : Vector Byte 8)
  | parsed (r : Parsed)
  | label (l : Label) (text : String) (diag : Option Byte)
  | bit (b : Bool)
  | events (ev : BitVec 4) (text : String)
  | mark (miss : Bool) (text : String)
  | described (c : Composite) (text : String) (esc : Bool) (diag : Option Byte)
  | denom (d : Fin 8)
  | state (r : StateReading)
  | flag (set : Bool) (text : String)
  deriving DecidableEq, Repr

/-- The state of the machine. The first group is the block's own (10_state.md R10), `cfg` is the constant record of
00_scope.md R5, the second group the environment's and the bookkeeping of R23, the third the model's own. -/
structure State where
  /-- `Cfg`, constant for the whole session (R10, R44). -/
  cfg : Cfg
  /-- `HS`, the handshake bit (R11). -/
  hs : Bool
  /-- `ESC`, the escrow-active flag (R12). -/
  esc : Bool
  /-- `LAST`, the last-reported composite status (R13). -/
  last : Option Composite
  /-- `CNT[0..7]`, the acceptance counters (R14). -/
  cnt : Vector Nat 8
  /-- `RUN` (R15). -/
  run : Bool
  /-- `VERBOSE` (R16). -/
  verbose : Bool
  /-- `PHASE` (R17). -/
  phase : Phase
  /-- `TXBUF`, `RXBUF`, `RXLEN` (R18, R19). -/
  mem : Memory
  /-- `STATE_B` (R20). -/
  stateB : Byte
  /-- `EVENT_B` (R20). -/
  eventB : Byte
  /-- `CREDIT_B` (R20). -/
  creditB : Byte
  /-- `STATUS` (R20). -/
  status : Composite
  /-- `ESC_DEC` (R20). -/
  escDec : Bool
  /-- `OPEN` (R21). -/
  isOpen : Bool
  /-- `FATAL` (R21). -/
  fatal : Option TransportOp
  /-- `CYCLE_T` in milliseconds (R22). DESIGN CHOICE, unsafe only for claims about milliseconds: log entry 7. -/
  cycleT : Nat
  /-- `RXQ`, the transport's receive queue, front first (R23). -/
  rxq : List Byte
  /-- `TXS`, every byte written so far (R23). -/
  txs : List Byte
  /-- `OUT`, every event emitted so far (R23). -/
  out : List Event
  /-- The environment's answers to the transport operations. -/
  answers : Answers
  /-- The turns still to come; when there is none the worker goes on. DESIGN CHOICE, safe: log entry 8. -/
  sched : List Turn
  /-- The 3-bit codes of the commands the host has still to issue. -/
  hostQ : List (BitVec 3)
  /-- The host is inside BLOCK_UNTIL_STOPPED (R124). DESIGN CHOICE, unsafe with a second host thread: log entry 12. -/
  hostWaiting : Bool
  /-- The transport operations invoked so far. DESIGN CHOICE, safe: log entry 13. -/
  calls : List TransportOp
  /-- How many free values have been drawn. -/
  draws : Nat
  /-- The result of the last combinational operation. -/
  ret : Ret
  deriving DecidableEq, Repr

/-- Why the machine stops. Both reasons need a finite implementation limit that `Cfg.default` does not have. DESIGN
CHOICE, safe: log entry 10. -/
inductive Fault where
  /-- Raised by S9 when `CNT_W` is finite and counter `d` is at its maximum: "stuck: the spec defines no result"
  (93_implementation_defined.md U1). Safe: the model stops where an implementation goes on somehow. -/
  | counterAtMaximum (d : Fin 8)
  /-- Raised by S4 when `RX_DEPTH` is finite and `RxAvail()` reports `n` bytes, more than it: "stuck" (U5). Safe. -/
  | receiveOverrun (n : Nat)
  deriving DecidableEq, Repr

/-- Why a step has no meaning. -/
inductive Refusal where
  /-- An instruction of the table without a meaning yet; raised by `exec` alone. Safe. -/
  | notModelled (mnemonic : String)
  /-- Raised by a step whose turn offers bytes that are no operation at their port. Safe. -/
  | undecodable (e : DecodeError)
  /-- Raised by a step whose turn offers a combinational operation at a port that has none. Safe. -/
  | notCombinational (p : Port)
  /-- Raised by CHECKSUM on a sequence shorter than the six bytes R80 requires; no decoded CHECKSUM is. Safe. -/
  | checksumOperandTooShort (n : Nat)
  deriving DecidableEq, Repr

/-- The machine right after reset, for a configuration (10_state.md R24). The buffers and latches, which R24 leaves
unspecified, are zero, and `RXQ`, which it leaves to the transport, is empty. DESIGN CHOICE, unsafe: log
entry 1. -/
def State.resetWith (cfg : Cfg) : State where
  cfg := cfg
  hs := cfg.hsInit
  esc := false
  last := cfg.lastInit
  cnt := #v[0, 0, 0, 0, 0, 0, 0, 0]
  run := true
  verbose := false
  phase := .s0
  mem := { txbuf := #v[0, 0, 0, 0, 0, 0, 0, 0], rxbuf := [], rxlen := 0 }
  stateB := 0
  eventB := 0
  creditB := 0
  status := Composite.empty
  escDec := false
  isOpen := true
  fatal := none
  cycleT := 0
  rxq := []
  txs := []
  out := []
  answers := { txWriteFails := false, rxAvailFails := false, rxReadFails := false, closeFails := false }
  sched := []
  hostQ := []
  hostWaiting := false
  calls := []
  draws := 0
  ret := .nothing

/-- The machine right after reset with the default `Cfg`. -/
def State.reset : State := State.resetWith Cfg.default

end Sys2Proof.Machine
end

