-- ==== Sys2Proof/Machine/Ops.lean ====
section
/-! DEFINITION. The named operations over the state: events, waits, buffer reads, the four transport operations
(43_host_interface.md R130 to R133), the environment's operations (20_memory.md R37), and the fatal path, which is
this block's taking of an exception (60_exceptions.md R149; there is no return from it, R150). -/

namespace Sys2Proof.Machine

/-- `PHASE <- p`. -/
def goto (p : Phase) (s : State) : State := { s with phase := p }

/-- `Emit(e)`: appends an event to the output trace (00_scope.md R8). -/
def emit (e : Event) (s : State) : State := { s with out := s.out ++ [e] }

/-- Emits a diagnostic when there is one. -/
def emitUnknown (d : Option Byte) (s : State) : State :=
  match d with
  | none => s
  | some b => emit (.diagnostic (.unknownPrimaryState b)) s

/-- `Wait(t)`: nothing happens for at least `t`; only `CYCLE_T`, the time since S0, shows it (R8, R22). -/
def wait (t : Nat) (s : State) : State := { s with cycleT := s.cycleT + t }

/-- The result port of the combinational operations. -/
def withRet (r : Ret) (s : State) : State := { s with ret := r }

/-- `MemRead(TXBUF + i, 1)`; none outside offsets 0 to 7 (20_memory.md R30, R36). -/
def readTx (m : Memory) (i : Nat) : Option Byte := m.txbuf[i]?

/-- `RXBUF[0..RXLEN-1]` (R30). -/
def received (m : Memory) : List Byte := m.rxbuf.take m.rxlen

/-- `MemRead(RXBUF + i, 1)`; none outside offsets 0 to `RXLEN` - 1 (R30, R36). -/
def readRx (m : Memory) (i : Nat) : Option Byte := (received m)[i]?

/-- `TXBUF[0..7] <- f` (R102). -/
def loadTx (f : Vector Byte 8) (m : Memory) : Memory := { m with txbuf := f }

/-- `RXBUF[0..n-1] <- bytes`, `RXLEN <- n` (R105). -/
def loadRx (bytes : List Byte) (m : Memory) : Memory := { m with rxbuf := bytes, rxlen := bytes.length }

/-- `RXLEN <- 0` (R105): the empty drain. -/
def clearRx (m : Memory) : Memory := { m with rxlen := 0 }

/-- What an invocation of a transport operation does: it returns a value, or raises TransportFailure (R144). -/
inductive Attempt (α : Type) where
  | returned (a : α) (s : State)
  | raised (s : State)

/-- Records the invocation of a transport operation. -/
def invoke (op : TransportOp) (s : State) : State := { s with calls := s.calls ++ [op] }

/-- `TxWrite(bytes)` (R130): on success every byte is appended to `TXS` in order (R34); on failure an unspecified
prefix is (free value, U4). -/
def txWrite (bytes : List Byte) (s : State) : Attempt Unit :=
  let s := invoke .txWrite s
  if s.answers.txWriteFails then
    .raised { s with txs := s.txs ++ bytes.take (Config.failedWritePrefix s.draws), draws := s.draws + 1 }
  else .returned () { s with txs := s.txs ++ bytes }

/-- `RxAvail()` (R131): the length of `RXQ`, which it leaves alone. -/
def rxAvail (s : State) : Attempt Nat :=
  let s := invoke .rxAvail s
  if s.answers.rxAvailFails then .raised s else .returned s.rxq.length s

/-- The queue after a failing `RxRead(n)`: of the first `n` bytes an unspecified set is gone (free value, R132). -/
def afterFailedRead (draw n : Nat) (q : List Byte) : List Byte :=
  (q.zipIdx.filter fun bi => !(decide (bi.2 < n) && Config.failedReadTakes draw bi.2)).map Prod.fst

/-- `RxRead(n)` (R132): removes and returns the first `n` bytes of `RXQ`, oldest first. -/
def rxRead (n : Nat) (s : State) : Attempt (List Byte) :=
  let s := invoke .rxRead s
  if s.answers.rxReadFails then
    .raised { s with rxq := afterFailedRead s.draws n s.rxq, draws := s.draws + 1 }
  else .returned (s.rxq.take n) { s with rxq := s.rxq.drop n }

/-- `Close()` (R133): succeeds or raises; what the transport then does is not the block's. -/
def close (s : State) : Attempt Unit :=
  let s := invoke .close s
  if s.answers.closeFails then .raised s else .returned () s

/-- The worker takes its last step: `OPEN <- 0`, `PHASE` becomes terminal, and a host that waits in
BLOCK_UNTIL_STOPPED returns (R124). -/
def terminate (p : Phase) (s : State) : State := { s with isOpen := false, phase := p, hostWaiting := false }

/-- The state an attempt leaves, whatever its result: a failure of the cleanup close is dropped (R149). -/
def Attempt.state {α : Type} : Attempt α → State
  | .returned _ s => s
  | .raised s => s

/-- FATAL_PATH(op) (60_exceptions.md R149): record, cleanup close unless `Close` itself failed, `OPEN <- 0`, the
`Fatal` event, FAULTED. -/
def fatalPath (op : TransportOp) (s : State) : State :=
  let s := { s with fatal := some op }
  let s := if op = .close then s else (close s).state
  terminate .faulted (emit (.fatal op) s)

/-- The environment appends bytes to `RXQ` (R37). -/
def arrive (bytes : List Byte) (s : State) : State := { s with rxq := s.rxq ++ bytes }

/-- Whether `n` available bytes are more than a finite `RX_DEPTH` holds (93 U5). -/
def exceedsDepth (cfg : Cfg) (n : Nat) : Bool :=
  match cfg.rxDepth with
  | none => false
  | some d => decide (d < n)

/-- Whether a counter holding `v` is at the maximum of a finite `CNT_W` (93 U1). -/
def atMaximum (cfg : Cfg) (v : Nat) : Bool :=
  match cfg.cntW with
  | none => false
  | some w => decide (2 ^ w ≤ v + 1)

/-- The whole reading of a primary-state byte (30_encoding.md R56, R57). -/
def readState (cfg : Cfg) (b : Byte) : StateReading where
  byte := b
  label := labelOf cfg b
  text := labelText cfg (labelOf cfg b)
  escrow := escrowBit b
  accept := acceptBit b
  diag := unknownStateByte cfg b

/-- A tested event bit and the label it appends (R59, R60). -/
def eventFlag (e mask : Byte) (text : String) : Ret :=
  .flag (hasBit e mask) (if hasBit e mask then text else "")

end Sys2Proof.Machine
end

