-- ==== Sys2Proof/Machine/Codec.lean ====
section
/-! DEFINITION. The Frame Codec's operations (40_frame_codec.md). "Flags written: none. State read or written: none":
each leaves its result in `ret` and changes nothing else. -/

namespace Sys2Proof.Machine

/-- CHECKSUM (R80), of at least six bytes. DESIGN CHOICE, safe: the refusal of fewer, log entry 11. -/
def execChecksum (f : List Byte) (s : State) : Host.Outcome State Fault Refusal :=
  if f.length ≤ ckHi then .refused (.checksumOperandTooShort f.length)
  else .next (withRet (.byte (checksumOf f)) s)

/-- BUILD_OUTBOUND (R82). -/
def execBuildOutbound (h e : Bool) (s : State) : Host.Outcome State Fault Refusal :=
  .next (withRet (.frame (buildOutboundFrame s.cfg h e)) s)

/-- PARSE_INBOUND (R84): a frame or FrameTooShort, for every byte sequence. -/
def execParseInbound (b : List Byte) (s : State) : Host.Outcome State Fault Refusal :=
  .next (withRet (.parsed (parseInboundBytes s.cfg b)) s)

end Sys2Proof.Machine
end

