-- ==== Sys2Proof/Machine/Frames.lean ====
section
/-! DEFINITION. The two frame formats on the line: STATUS, an inbound frame arriving (30_encoding.md R54, 20_memory.md
R37), and POLL, the outbound frame leaving (R50, 42_acceptor_session.md R104). -/

namespace Sys2Proof.Machine

/-- Phase S3's work on the frame in `TXBUF` (R104), shared by S3_WRITE_WAIT and POLL. -/
def writeFrame (s : State) : State :=
  match txWrite s.mem.txbuf.toList s with
  | .raised s => fatalPath .txWrite s
  | .returned _ s => goto .s4 (wait s.cfg.tTurnaround s)

/-- POLL: the frame with these bits stands in `TXBUF` and phase S3 sends it, which is the only way a frame leaves
the block (R50, R130). DESIGN CHOICE, safe: log entry 4. -/
def execPoll (h e : Bool) (c : Byte) (s : State) : Host.Outcome State Fault Refusal :=
  .next (writeFrame { s with mem := loadTx (outboundFrame s.cfg h e c) s.mem })

/-- STATUS: the device's frame arrives, whole and unvalidated, at the end of `RXQ` (R54, R55, R37).
DESIGN CHOICE, safe: log entry 4. -/
def execStatus (frame : List Byte) (s : State) : Host.Outcome State Fault Refusal :=
  .next (arrive frame s)

end Sys2Proof.Machine
end

