-- ==== Sys2Proof/Machine/HostCommands.lean ====
section
/-! DEFINITION. The four host commands (43_host_interface.md R121 to R125): three atomic single-bit stores, never
refused, and the one command that waits. -/

namespace Sys2Proof.Machine

/-- SET_ESCROW_INTENT(a) (R121). -/
def execSetEscrowIntent (a : Bool) (s : State) : Host.Outcome State Fault Refusal := .next { s with esc := a }

/-- SET_VERBOSE(a) (R122). -/
def execSetVerbose (a : Bool) (s : State) : Host.Outcome State Fault Refusal := .next { s with verbose := a }

/-- REQUEST_STOP (R123); the argument bit is ignored (30_encoding.md R67). -/
def execRequestStop (_x : Bool) (s : State) : Host.Outcome State Fault Refusal := .next { s with run := false }

/-- BLOCK_UNTIL_STOPPED (R124): it returns at once when `PHASE` is STOPPED or FAULTED; otherwise the host waits, and
what lifts the wait is the worker's last step (`terminate`). No register of the block is written. -/
def execBlockUntilStopped (_x : Bool) (s : State) : Host.Outcome State Fault Refusal :=
  .next { s with hostWaiting := !s.phase.isTerminal }

end Sys2Proof.Machine
end

