-- ==== Sys2Proof/Machine/Interpreter.lean ====
section
/-! DEFINITION. The Status Interpreter's operations (41_status_interpreter.md), pure like the codec's (R98 a). -/

namespace Sys2Proof.Machine

/-- PRIMARY_LABEL (R90). -/
def execPrimaryLabel (b : Byte) (s : State) : Host.Outcome State Fault Refusal :=
  .next (withRet (.label (labelOf s.cfg b) (labelText s.cfg (labelOf s.cfg b)) (unknownStateByte s.cfg b)) s)

/-- ESCROW_DETECT (R91). -/
def execEscrowDetect (b : Byte) (s : State) : Host.Outcome State Fault Refusal :=
  .next (withRet (.bit (escrowBit b)) s)

/-- EVENT_LABELS (R92). -/
def execEventLabels (e : Byte) (s : State) : Host.Outcome State Fault Refusal :=
  .next (withRet (.events (eventFlags e) (eventText s.cfg (eventFlags e))) s)

/-- CASSETTE_MARK (R93). -/
def execCassetteMark (e : Byte) (s : State) : Host.Outcome State Fault Refusal :=
  .next (withRet (.mark (cassetteMissing e) (markerText s.cfg (cassetteMissing e))) s)

/-- DESCRIBE (R94). -/
def execDescribe (b e : Byte) (s : State) : Host.Outcome State Fault Refusal :=
  .next (withRet (.described (describeStatus s.cfg b e) (render s.cfg (describeStatus s.cfg b e)) (escrowBit b)
    (unknownStateByte s.cfg b)) s)

/-- CREDIT_DENOM (R95). -/
def execCreditDenom (c : Byte) (s : State) : Host.Outcome State Fault Refusal :=
  .next (withRet (.denom (creditDenomOf c)) s)

/-- ACCEPT_CLASS (R97). -/
def execAcceptClass (b : Byte) (s : State) : Host.Outcome State Fault Refusal :=
  .next (withRet (.bit (acceptBit b)) s)

end Sys2Proof.Machine
end

