-- ==== Sys2Proof/Machine/Readings.lean ====
section
/-! DEFINITION. The codes and tested bits of the three inbound bytes, as readings (30_encoding.md R56 to R64): what
the block takes a primary-state byte, an event byte or a credit byte to say. Each leaves its result in `ret`. -/

namespace Sys2Proof.Machine

/-- ST_IDLING (R57). -/
def execStIdling (s : State) : Host.Outcome State Fault Refusal :=
  .next (withRet (.state (readState s.cfg s.cfg.codes.idling)) s)

/-- ST_ACCEPTING (R57). -/
def execStAccepting (s : State) : Host.Outcome State Fault Refusal :=
  .next (withRet (.state (readState s.cfg s.cfg.codes.accepting)) s)

/-- ST_ESCROWED (R57). -/
def execStEscrowed (s : State) : Host.Outcome State Fault Refusal :=
  .next (withRet (.state (readState s.cfg s.cfg.codes.escrowed)) s)

/-- ST_STACKING (R57). -/
def execStStacking (s : State) : Host.Outcome State Fault Refusal :=
  .next (withRet (.state (readState s.cfg s.cfg.codes.stacking)) s)

/-- ST_STACKED (R57). -/
def execStStacked (s : State) : Host.Outcome State Fault Refusal :=
  .next (withRet (.state (readState s.cfg s.cfg.codes.stacked)) s)

/-- ST_RETURNING (R57). -/
def execStReturning (s : State) : Host.Outcome State Fault Refusal :=
  .next (withRet (.state (readState s.cfg s.cfg.codes.returning)) s)

/-- ST_RETURNED (R57). -/
def execStReturned (s : State) : Host.Outcome State Fault Refusal :=
  .next (withRet (.state (readState s.cfg s.cfg.codes.returned)) s)

/-- ST_STACKED_IDLING (R57). -/
def execStStackedIdling (s : State) : Host.Outcome State Fault Refusal :=
  .next (withRet (.state (readState s.cfg s.cfg.codes.stackedIdling)) s)

/-- ST_RETURNED_IDLING (R57). -/
def execStReturnedIdling (s : State) : Host.Outcome State Fault Refusal :=
  .next (withRet (.state (readState s.cfg s.cfg.codes.returnedIdling)) s)

/-- ST_UNKNOWN (R57): the empty label and the diagnostic, and the two bit tests on the raw byte (R56). -/
def execStUnknown (b : Byte) (s : State) : Host.Outcome State Fault Refusal :=
  .next (withRet (.state (readState s.cfg b)) s)

/-- ST_ESCROW_BIT (R56 b). -/
def execStEscrowBit (b : Byte) (s : State) : Host.Outcome State Fault Refusal :=
  .next (withRet (.bit (escrowBit b)) s)

/-- ST_ACCEPT_CLASS_BIT (R56 c). -/
def execStAcceptClassBit (b : Byte) (s : State) : Host.Outcome State Fault Refusal :=
  .next (withRet (.bit (acceptBit b)) s)

/-- EV_CHEATED (R59). -/
def execEvCheated (e : Byte) (s : State) : Host.Outcome State Fault Refusal :=
  .next (withRet (eventFlag e cheatedMask s.cfg.evLabels.cheated) s)

/-- EV_REJECTED (R59). -/
def execEvRejected (e : Byte) (s : State) : Host.Outcome State Fault Refusal :=
  .next (withRet (eventFlag e rejectedMask s.cfg.evLabels.rejected) s)

/-- EV_JAMMED (R59). -/
def execEvJammed (e : Byte) (s : State) : Host.Outcome State Fault Refusal :=
  .next (withRet (eventFlag e jammedMask s.cfg.evLabels.jammed) s)

/-- EV_FULL (R59). -/
def execEvFull (e : Byte) (s : State) : Host.Outcome State Fault Refusal :=
  .next (withRet (eventFlag e fullMask s.cfg.evLabels.full) s)

/-- EV_CASSETTE_PRESENT (R59): 1 means present; when it is 0 the marker is appended (R61). -/
def execEvCassettePresent (e : Byte) (s : State) : Host.Outcome State Fault Refusal :=
  .next (withRet (.flag (hasBit e cassetteMask) (markerText s.cfg (!hasBit e cassetteMask))) s)

/-- EV_IGNORED (R64 b): "Event byte bits 5 to 7: ignored", so the reading has no result. -/
def execEvIgnored (_e : Byte) (s : State) : Host.Outcome State Fault Refusal :=
  .next (withRet .nothing s)

/-- CR_DENOMINATION (R63). -/
def execCrDenomination (c : Byte) (s : State) : Host.Outcome State Fault Refusal :=
  .next (withRet (.denom (creditDenomOf c)) s)

end Sys2Proof.Machine
end

