-- ==== Sys2Proof/Machine/Sequencer.lean ====
section
/-! DEFINITION. The phases of the Acceptor Session (42_acceptor_session.md R101 to R113), each the pseudocode of its
rule. A phase names its successor itself; a TransportFailure takes the fatal path (60_exceptions.md R149). -/

namespace Sys2Proof.Machine

/-- S0_TEST_RUN (R101). -/
def execS0TestRun (s : State) : Host.Outcome State Fault Refusal :=
  .next (goto (if s.run then .s1 else .exit) { s with cycleT := 0 })

/-- S1_BUILD (R102). -/
def execS1Build (s : State) : Host.Outcome State Fault Refusal :=
  .next (goto .s2 { s with mem := loadTx (buildOutboundFrame s.cfg s.hs s.esc) s.mem })

/-- S2_FLIP_HS (R103). -/
def execS2FlipHs (s : State) : Host.Outcome State Fault Refusal :=
  .next (goto .s3 { s with hs := !s.hs })

/-- S3_WRITE_WAIT (R104). -/
def execS3WriteWait (s : State) : Host.Outcome State Fault Refusal :=
  .next (writeFrame s)

/-- S4_DRAIN (R105): one query and, when bytes are available, one read of exactly that number. -/
def execS4Drain (s : State) : Host.Outcome State Fault Refusal :=
  match rxAvail s with
  | .raised s => .next (fatalPath .rxAvail s)
  | .returned n s =>
    if n = 0 then .next (goto .s10 { s with mem := clearRx s.mem })
    else if exceedsDepth s.cfg n then .fault (.receiveOverrun n)
    else
      match rxRead n s with
      | .raised s => .next (fatalPath .rxRead s)
      | .returned bytes s => .next (goto .s5 { s with mem := loadRx bytes s.mem })

/-- S5_PARSE (R106); FrameTooShort is recovered here (60_exceptions.md R141, R148). -/
def execS5Parse (s : State) : Host.Outcome State Fault Refusal :=
  match parseInboundBytes s.cfg (received s.mem) with
  | .tooShort n => .next (goto .s10 (emit (.diagnostic (.frameTooShort n)) s))
  | .frame f => .next (goto .s6 { s with stateB := f.state, eventB := f.event, creditB := f.credit })

/-- S6_INTERPRET (R107); UnknownPrimaryState is a diagnostic only (60_exceptions.md R142). -/
def execS6Interpret (s : State) : Host.Outcome State Fault Refusal :=
  let s := emitUnknown (unknownStateByte s.cfg s.stateB) s
  .next (goto .s7 { s with
    status := describeStatus s.cfg s.stateB s.eventB
    escDec := escrowBit s.stateB
    esc := escrowBit s.stateB })

/-- S7_CHANGE_DETECT (R108). -/
def execS7ChangeDetect (s : State) : Host.Outcome State Fault Refusal :=
  if statusChanged s.cfg s.last s.status then
    .next (goto .s8 { emit (.statusChange s.status) s with last := some s.status })
  else .next (goto .s8 s)

/-- S8_TRACE (R109). -/
def execS8Trace (s : State) : Host.Outcome State Fault Refusal :=
  if s.verbose then .next (goto .s9 (emit (.diagnostic (.trace (received s.mem))) s))
  else .next (goto .s9 s)

/-- S9_CREDIT (R110). -/
def execS9Credit (s : State) : Host.Outcome State Fault Refusal :=
  let d := creditDenomOf s.creditB
  if d ≠ 0 ∧ acceptBit s.stateB = true then
    if atMaximum s.cfg s.cnt[d] then .fault (.counterAtMaximum d)
    else
      let cnt := s.cnt.set d (s.cnt[d] + 1)
      .next (goto .s10 (emit (.billCredited d cnt) { s with cnt := cnt }))
  else .next (goto .s10 s)

/-- S10_SLEEP (R111): the remainder of the poll interval, never negative. -/
def execS10Sleep (s : State) : Host.Outcome State Fault Refusal :=
  .next (goto .s0 (wait (s.cfg.tPoll - s.cycleT) s))

/-- EXIT_CLOSE (R112). -/
def execExitClose (s : State) : Host.Outcome State Fault Refusal :=
  match close s with
  | .raised s => .next (fatalPath .close s)
  | .returned _ s => .next (terminate .stopped s)

/-- STOPPED (R113): a final state of a run, not a stuck one; the worker changes nothing any more. -/
def execStopped (s : State) : Host.Outcome State Fault Refusal := .next s

/-- FAULTED (R113): likewise; `FATAL` records why. -/
def execFaulted (s : State) : Host.Outcome State Fault Refusal := .next s

end Sys2Proof.Machine
end

