-- ==== Sys2Proof/Machine/Dispatch.lean ====
section
/-! DEFINITION. The dispatch: one arm per constructor of `Instr`, each one direct call of its meaning. -/

namespace Sys2Proof.Machine

def exec (i : Instr) (s : State) : Host.Outcome State Fault Refusal :=
  match i with
  | .poll h e c => Sys2Proof.Machine.execPoll h e c s
  | .status frame => Sys2Proof.Machine.execStatus frame s
  | .checksum f => Sys2Proof.Machine.execChecksum f s
  | .buildOutbound h e => Sys2Proof.Machine.execBuildOutbound h e s
  | .parseInbound b => Sys2Proof.Machine.execParseInbound b s
  | .primaryLabel b => Sys2Proof.Machine.execPrimaryLabel b s
  | .escrowDetect b => Sys2Proof.Machine.execEscrowDetect b s
  | .eventLabels e => Sys2Proof.Machine.execEventLabels e s
  | .cassetteMark e => Sys2Proof.Machine.execCassetteMark e s
  | .describe b e => Sys2Proof.Machine.execDescribe b e s
  | .creditDenom c => Sys2Proof.Machine.execCreditDenom c s
  | .acceptClass b => Sys2Proof.Machine.execAcceptClass b s
  | .stIdling => Sys2Proof.Machine.execStIdling s
  | .stAccepting => Sys2Proof.Machine.execStAccepting s
  | .stEscrowed => Sys2Proof.Machine.execStEscrowed s
  | .stStacking => Sys2Proof.Machine.execStStacking s
  | .stStacked => Sys2Proof.Machine.execStStacked s
  | .stReturning => Sys2Proof.Machine.execStReturning s
  | .stReturned => Sys2Proof.Machine.execStReturned s
  | .stStackedIdling => Sys2Proof.Machine.execStStackedIdling s
  | .stReturnedIdling => Sys2Proof.Machine.execStReturnedIdling s
  | .stUnknown b => Sys2Proof.Machine.execStUnknown b s
  | .stEscrowBit b => Sys2Proof.Machine.execStEscrowBit b s
  | .stAcceptClassBit b => Sys2Proof.Machine.execStAcceptClassBit b s
  | .evCheated e => Sys2Proof.Machine.execEvCheated e s
  | .evRejected e => Sys2Proof.Machine.execEvRejected e s
  | .evJammed e => Sys2Proof.Machine.execEvJammed e s
  | .evFull e => Sys2Proof.Machine.execEvFull e s
  | .evCassettePresent e => Sys2Proof.Machine.execEvCassettePresent e s
  | .evIgnored e => Sys2Proof.Machine.execEvIgnored e s
  | .crDenomination c => Sys2Proof.Machine.execCrDenomination c s
  | .s0TestRun => Sys2Proof.Machine.execS0TestRun s
  | .s1Build => Sys2Proof.Machine.execS1Build s
  | .s2FlipHs => Sys2Proof.Machine.execS2FlipHs s
  | .s3WriteWait => Sys2Proof.Machine.execS3WriteWait s
  | .s4Drain => Sys2Proof.Machine.execS4Drain s
  | .s5Parse => Sys2Proof.Machine.execS5Parse s
  | .s6Interpret => Sys2Proof.Machine.execS6Interpret s
  | .s7ChangeDetect => Sys2Proof.Machine.execS7ChangeDetect s
  | .s8Trace => Sys2Proof.Machine.execS8Trace s
  | .s9Credit => Sys2Proof.Machine.execS9Credit s
  | .s10Sleep => Sys2Proof.Machine.execS10Sleep s
  | .exitClose => Sys2Proof.Machine.execExitClose s
  | .stopped => Sys2Proof.Machine.execStopped s
  | .faulted => Sys2Proof.Machine.execFaulted s
  | .setEscrowIntent a => Sys2Proof.Machine.execSetEscrowIntent a s
  | .setVerbose a => Sys2Proof.Machine.execSetVerbose a s
  | .requestStop x => Sys2Proof.Machine.execRequestStop x s
  | .blockUntilStopped x => Sys2Proof.Machine.execBlockUntilStopped x s

end Sys2Proof.Machine
end

