-- ==== Sys2Proof/Machine/Fetch.lean ====
section
/-! DEFINITION. What happens next: whose turn it is in the interleaving (20_memory.md R41), and which operation that
turn fetches. The worker fetches the operation `PHASE` names (10_state.md R17), the host the next command of its
queue (30_encoding.md R67), the environment appends bytes to `RXQ`; and how a word of the opcode table is placed
where the next step fetches it. -/

namespace Sys2Proof.Machine

/-- What a turn comes to: an operation to execute in a state, a turn in which nothing is executed, or a refusal. -/
inductive Fetched where
  | instr (i : Instr) (s : State)
  | moved (s : State)
  | stop (r : Refusal)

/-- A decoded word as what its turn executes. -/
def fetchDecoded (d : Decoded) (s : State) : Fetched :=
  match d with
  | .instr i => .instr i s
  | .error e => .stop (.undecodable e)

/-- The operation of one turn. A host that is inside BLOCK_UNTIL_STOPPED, or has no command left, lets its turn pass;
the command at the head of its queue stays there for the host's first turn after the wait (DESIGN CHOICE, unsafe with a
second host thread: log entry 12; what it means for a host line of R68: log entry 9). Bytes that arrive are a STATUS
frame when they are six or more; a shorter sequence is appended just the same (R37). -/
def fetchTurn (t : Turn) (s : State) : Fetched :=
  match t with
  | .worker => fetchDecoded (decode s.cfg .phase [s.phase.code]) s
  | .host =>
    if s.hostWaiting then .moved s
    else
      match s.hostQ with
      | [] => .moved s
      | c :: q => fetchDecoded (decode s.cfg .hostCmd [c.setWidth 8]) { s with hostQ := q }
  | .arrive bs =>
    match decode s.cfg .in6 bs with
    | .instr i => .instr i s
    | .error _ => .moved (arrive bs s)
  | .transport a => .moved { s with answers := a }
  | .elapse ms => .moved (wait ms s)
  | .operate p bs =>
    if p.isCombinational then fetchDecoded (decode s.cfg p bs) s else .stop (.notCombinational p)

/-- The next turn, the worker's when none is scheduled, and the operation it fetches. -/
def fetch (s : State) : Fetched :=
  match s.sched with
  | [] => fetchTurn .worker s
  | t :: ts => fetchTurn t { s with sched := ts }

/-- The phase of a 4-bit code (30_encoding.md R66). -/
def phaseOfCode (b : Byte) : Option Phase :=
  match b.toNat with
  | 0 => some .s0
  | 1 => some .s1
  | 2 => some .s2
  | 3 => some .s3
  | 4 => some .s4
  | 5 => some .s5
  | 6 => some .s6
  | 7 => some .s7
  | 8 => some .s8
  | 9 => some .s9
  | 10 => some .s10
  | 11 => some .exit
  | 12 => some .stopped
  | 13 => some .faulted
  | _ => none

/-- An instruction placed where the next step runs it: an outbound frame in `TXBUF` with the worker at S3, which
sends it; a phase in `PHASE`; a host command at the head of the host's queue with the host's turn next; bytes of a
frame as the next arrival; a combinational operation as the next turn. -/
def placeInstr (i : Instr) (s : State) : State :=
  match i with
  | .poll h e c =>
    { s with mem := loadTx (outboundFrame s.cfg h e c) s.mem, phase := .s3, sched := .worker :: s.sched }
  | i =>
    match encode s.cfg i with
    | (.phase, [b]) => { s with phase := (phaseOfCode b).getD s.phase, sched := .worker :: s.sched }
    | (.hostCmd, [b]) =>
      { s with hostQ := b.setWidth 3 :: s.hostQ, hostWaiting := false, sched := .host :: s.sched }
    | (.in6, bs) => { s with sched := .arrive bs :: s.sched }
    | (p, bs) => { s with sched := .operate p bs :: s.sched }

/-- A word of the opcode table placed as the next operation; a word that decodes to none is offered as a frame at a
port that runs none, so that the next step refuses it. -/
def placeWord (nbits w : Nat) (s : State) : State :=
  match decodeTableWord nbits w with
  | some i => placeInstr i s
  | none => { s with sched := .operate .out8 (bytesOfNat (nbits / 8) w) :: s.sched }

end Sys2Proof.Machine
end

