-- ==== Sys2Proof/Machine/Step.lean ====
section
/-! DEFINITION. One step: the next turn of the interleaving. -/

namespace Sys2Proof.Machine

/-- One step of the machine (20_memory.md R41: one worker phase, one host command or one environment step). -/
def step (s : State) : Host.Outcome State Fault Refusal :=
  match fetch s with
  | .instr i s' => exec i s'
  | .moved s' => .next s'
  | .stop r => .refused r

/-- The state with one word of the opcode table placed as the next operation. -/
def State.withFetchWord (s : State) (nbits w : Nat) : State := placeWord nbits w s

end Sys2Proof.Machine
end

