-- ==== Sys2Proof/Machine/Stimulus.lean ====
section
/-! DEFINITION. The stimulus notation of 30_encoding.md R68: a test program, one item a line, as the turns of the
interleaving and the host commands it stands for. -/

namespace Sys2Proof.Machine

/-- One line of a stimulus program. `cfg NAME=value` is not among them: it chooses the `Cfg` that
`State.resetWith` takes. -/
inductive Stimulus where
  /-- `host …`: a command (its 3-bit code), where the line stands; while the host is still inside an earlier
  `host wait` its turn passes and the code stays queued (DESIGN CHOICE, safe: log entry 9). -/
  | host (code : BitVec 3)
  /-- `host … @Sn`: a command immediately before phase `p` of the following cycle. Where that cycle never reaches the
  phase the command is never issued (DESIGN CHOICE, safe: log entry 9). -/
  | hostAt (code : BitVec 3) (p : Phase)
  /-- `cycle rx=[…]`: a cycle in which exactly these bytes become available at S4. -/
  | cycle (rx : List Byte)
  /-- `cycle fail=TxWrite|RxAvail|RxRead`: a cycle in which the named operation fails. `RxRead` is invoked only when
  bytes are available, so for it one byte arrives (DESIGN CHOICE, safe: log entry 9). -/
  | cycleFail (op : TransportOp)
  /-- `exit`: S0 with `RUN` = 0, then EXIT. The line is two turns of the worker and issues no stop itself (DESIGN
  CHOICE, safe: log entry 9). -/
  | exit
  /-- `exit fail=Close`. -/
  | exitFail
  deriving DecidableEq, Repr

/-- Every operation succeeds. -/
def Answers.succeed : Answers := ⟨false, false, false, false⟩

/-- Every operation succeeds but one. -/
def Answers.failing : TransportOp → Answers
  | .txWrite => ⟨true, false, false, false⟩
  | .rxAvail => ⟨false, true, false, false⟩
  | .rxRead => ⟨false, false, true, false⟩
  | .close => ⟨false, false, false, true⟩

/-- The phases of a cycle that drains `n` bytes (42_acceptor_session.md R100). -/
def cyclePhases (n : Nat) : List Phase :=
  if n = 0 then [.s0, .s1, .s2, .s3, .s4, .s10]
  else if n < minRxLen then [.s0, .s1, .s2, .s3, .s4, .s5, .s10]
  else [.s0, .s1, .s2, .s3, .s4, .s5, .s6, .s7, .s8, .s9, .s10]

/-- The phases of a cycle up to the one in which an operation fails. -/
def failingPhases : TransportOp → List Phase
  | .txWrite => [.s0, .s1, .s2, .s3]
  | _ => [.s0, .s1, .s2, .s3, .s4]

/-- A program under translation: host codes and turns so far, and the `@Sn` commands of the next cycle. -/
structure Script where
  codes : List (BitVec 3)
  turns : List Turn
  pending : List (BitVec 3 × Phase)

/-- Adds worker phases, each after the host commands that are to stand before it and its environment turns. A pending
`@Sn` command whose phase is not among them (an empty drain, a short buffer, a failing operation) is dropped: R68 does
not say what becomes of it. DESIGN CHOICE, safe: log entry 9. -/
def addPhases (ps : List Phase) (env : Phase → List Turn) (k : Script) : Script :=
  let here (p : Phase) := k.pending.filter fun cp => cp.2 == p
  { codes := k.codes ++ ps.flatMap fun p => (here p).map Prod.fst
    turns := k.turns ++ ps.flatMap fun p => (here p).map (fun _ => Turn.host) ++ env p ++ [.worker]
    pending := [] }

/-- Adds one line. An `exit` line adds the worker's turns for S0 and EXIT and does not clear `RUN`: R68 says that it
runs S0 with `RUN` = 0, not who cleared it, and every `exit` in 95_test_vectors.md has a stop before it. With
`RUN` still 1 the two turns run S0 and S1, and EXIT is not reached. A host line adds one turn of the host and one code:
where the turn falls while the host still waits, R68 does not say what becomes of the line; here the turn passes and
the code keeps its place, so the turn of a later host line issues it, and the last codes are left unissued. DESIGN
CHOICE, safe: log entry 9. -/
def addLine (k : Script) : Stimulus → Script
  | .host c => { k with codes := k.codes ++ [c], turns := k.turns ++ [.host] }
  | .hostAt c p => { k with pending := k.pending ++ [(c, p)] }
  | .cycle rx => addPhases (cyclePhases rx.length) (fun p => if p = .s4 ∧ rx ≠ [] then [.arrive rx] else []) k
  | .cycleFail op =>
    addPhases (failingPhases op)
      (fun p =>
        if p = (if op = .txWrite then .s3 else .s4) then
          (if op = .rxRead then [.arrive [0]] else []) ++ [.transport (Answers.failing op)]
        else []) k
  | .exit => addPhases [.s0, .exit] (fun _ => []) k
  | .exitFail => addPhases [.s0, .exit] (fun p => if p = .exit then [.transport (Answers.failing .close)] else []) k

/-- A state with a stimulus program loaded: what the host and the environment do from here on. -/
def loadStimulus (lines : List Stimulus) (s : State) : State :=
  let k := lines.foldl addLine ⟨[], [], []⟩
  { s with hostQ := s.hostQ ++ k.codes, sched := s.sched ++ k.turns }

end Sys2Proof.Machine
end

