-- ==== Sys2Proof/Safety.lean ====
section
/-! DEFINITION. The terms the claims use: what a run is, when it has ended and with what (70_reset_and_hazards.md
R177), what counts as safe (60_exceptions.md R156), the invariants of the machine, and one whole cycle as a
function (42_acceptor_session.md R114). -/

namespace Sys2Proof.Machine

/-- The states a run passes through. -/
inductive Reaches : State → State → Prop where
  | refl (s : State) : Reaches s s
  | tail {s t u : State} : Reaches s t → step t = .next u → Reaches s u

/-- A run has ended: `PHASE` is STOPPED or FAULTED (R177). -/
def State.ended (s : State) : Bool := s.phase.isTerminal

/-- The block's one sticky fault record is empty (R156). -/
def State.safe (s : State) : Bool := s.fatal == none

/-- No transport operation fails: the premise R156 asks a claim about every run to name. It covers the answers now
and every scheduled change of them. -/
def State.transportReliable (s : State) : Bool :=
  let fine (a : Answers) := !a.txWriteFails && !a.rxAvailFails && !a.rxReadFails && !a.closeFails
  fine s.answers && s.sched.all fun t =>
    match t with
    | .transport a => fine a
    | _ => true

/-- The relations between fields that hold at reset and that every step keeps: `Cfg` is well-formed (R6); `RXLEN`
counts stored bytes; `OPEN` is 0 exactly in a terminal phase and `FATAL` is set exactly in FAULTED (R21, R149);
EXIT and STOPPED are reached only with `RUN` = 0 (R101); `CNT[0]` is 0 (R14); a waiting host waits for a phase that
has not ended (R124). -/
structure State.Consistent (s : State) : Prop where
  cfg : s.cfg.wf = true
  mem : s.mem.wf = true
  closed : s.isOpen = !s.phase.isTerminal
  fault : s.fatal.isSome = (s.phase == .faulted)
  stop : s.phase = .exit ∨ s.phase = .stopped → s.run = false
  cnt0 : s.cnt[0] = 0
  host : s.hostWaiting = true → s.phase.isTerminal = false

/-- The handshake bit of frame `n`, counting from 0: `HS_INIT ^ (n mod 2)` (R115). -/
def handshakeOf (cfg : Cfg) (n : Nat) : Bool := cfg.hsInit ^^ (n % 2 == 1)

/-- Bytes `8n` to `8n + 7` of the transmit stream. -/
def sentFrame (s : State) (n : Nat) : List Byte := (s.txs.drop (8 * n)).take 8

/-- The transmit stream and the sequencer agree (R100, R103, R115): while the session lives, `TXS` is a whole number
of frames; `HS` is the bit of the next frame, already flipped between S2 and S3; `TXBUF` between S1 and S3 is the
next frame; and frame `n` of `TXS`, or the part of it that was written before a failure, is BUILD_OUTBOUND of its
handshake bit and some escrow bit. -/
structure State.Framed (s : State) : Prop where
  whole : s.phase ≠ .faulted → s.txs.length % 8 = 0
  hs : s.phase ≠ .faulted →
    s.hs = handshakeOf s.cfg (s.txs.length / 8 + if s.phase = .s3 then 1 else 0)
  built : s.phase = .s2 ∨ s.phase = .s3 →
    ∃ e, s.mem.txbuf = buildOutboundFrame s.cfg (handshakeOf s.cfg (s.txs.length / 8)) e
  sent : ∀ n, ∃ e, sentFrame s n <+: (buildOutboundFrame s.cfg (handshakeOf s.cfg n) e).toList
  complete : ∀ n, 8 * n + 8 ≤ s.txs.length →
    ∃ e, sentFrame s n = (buildOutboundFrame s.cfg (handshakeOf s.cfg n) e).toList

/-- `k` steps of the machine, stopping at the first fault or refusal. -/
def steps : Nat → State → Host.Outcome State Fault Refusal := Host.Core.run Sys2Proof.core

/-- What a cycle yields: the registers after it and the events it emits (R114). -/
structure CycleResult where
  hs : Bool
  esc : Bool
  last : Option Composite
  cnt : Vector Nat 8
  sent : List Byte
  events : List Event
  deriving DecidableEq, Repr

/-- CYCLE (R114): one cycle that starts at S0 with `RUN` = 1 and meets no transport failure, as a function of the
registers, the escrow bit at S1 (`esc1`, also the value `ESC` keeps when the cycle is skipped), the bytes `rx` that
S4 drains and `VERBOSE` at S8. Written from the rule's own pseudocode, not from the phases. -/
def cycle (cfg : Cfg) (hs : Bool) (last : Option Composite) (cnt : Vector Nat 8) (esc1 : Bool) (rx : List Byte)
    (v8 : Bool) : CycleResult :=
  let sent := (buildOutboundFrame cfg hs esc1).toList
  if rx.length = 0 then ⟨!hs, esc1, last, cnt, sent, []⟩
  else if rx.length < 6 then
    ⟨!hs, esc1, last, cnt, sent, [.diagnostic (.frameTooShort rx.length)]⟩
  else
    let s := rx.getD cfg.stateOff 0
    let e := rx.getD cfg.eventOff 0
    let c := rx.getD creditOff 0
    let st := describeStatus cfg s e
    let unknown := labelOf cfg s == .unknown
    let changed := match last with
      | none => true
      | some l => render cfg st != render cfg l
    let d : Fin 8 := Fin.ofNat 8 ((c &&& 0x38) >>> 3).toNat
    let counted := d != 0 && (s &&& 0x10 != 0)
    let cnt' := if counted then cnt.set d (cnt[d] + 1) else cnt
    { hs := !hs
      esc := s &&& 0x04 != 0
      last := if changed then some st else last
      cnt := cnt'
      sent := sent
      events :=
        (if unknown then [.diagnostic (.unknownPrimaryState s)] else [])
          ++ (if changed then [.statusChange st] else [])
          ++ (if v8 then [.diagnostic (.trace rx)] else [])
          ++ (if counted then [.billCredited d cnt'] else []) }

/-- How many steps the cycle takes: the phases of R100. -/
def cycleSteps (n : Nat) : Nat := if n = 0 then 6 else if n < 6 then 7 else 11

end Sys2Proof.Machine
end

