-- ==== Sys2Proof/Certificates/Slice0/Obligations.lean ====
section
/-! DEFINITION. The statements for the provers. Each says in its docstring which rule of spec/ it formalises; one
that rests on a choice of the model's says so and names the log entry. A record update `{ s with … }` on the right of
an equation is the frame as well: every field not named is unchanged. -/

open Sys2Proof Sys2Proof.Machine

/-! ## Encoding -/

/-- Decoding the encoding of a well-formed instruction gives the instruction back, for every constructor, every
operand and every well-formed `Cfg` (30_encoding.md R50, R54, R57, R59, R63, R66, R67). The ports are the model's choice
(log entry 3). -/
def Obligations.DecodeReadsBackEveryEncoding : Prop :=
  ∀ (cfg : Cfg) (i : Instr), cfg.wf = true → i.wf cfg = true →
    decode cfg (encode cfg i).1 (encode cfg i).2 = .instr i

/-- The other direction, at every port (30_encoding.md R50, R54, R56, R57, R59, R63, R66, R67, 40_frame_codec.md R80,
R82, R84, 41_status_interpreter.md R90 to R95, R97): a word that decodes at a port is the encoding of what it decodes
to, so no two words of a port mean the same instruction; and what it decodes to is well-formed, but for a POLL frame,
whose checksum byte the decoder reports as it finds it. The ports, and that BUILD_OUTBOUND is read from the frame that
is its result, are the model's choice (log entry 3). -/
def Obligations.EveryDecodedWordIsItsEncoding : Prop :=
  ∀ (cfg : Cfg) (p : Port) (bs : List Byte) (i : Instr), decode cfg p bs = .instr i →
    encode cfg i = (p, bs) ∧ (p ≠ .out8 → i.wf cfg = true)

/-- Words written out from the tables of 30_encoding.md (R50, R53, R54, R57, R59, R63, R66, R67) and from the operands
of DESCRIBE (41_status_interpreter.md R94), numbered as spec/opcode_table.json numbers bits, decode to the instructions
they stand for. The ports of the last four clauses and, in the other eleven, everything `decodeTableWord` settles are
the model's choice (log entry 3): the width, and for one byte the value, choose the port, a word's first byte is its
low one, and so offset 0 of a 64-bit frame is its low byte. -/
def Obligations.TableWordsDecodeToTheirInstructions : Prop :=
  decodeTableWord 64 0x770300107F100802 = some (.poll false false 0x77)
    ∧ decodeTableWord 64 0x560300307F110802 = some (.poll true true 0x56)
    ∧ decodeTableWord 48 0x281004200B02 = some (.status [0x02, 0x0B, 0x20, 0x04, 0x10, 0x28])
    ∧ decodeTableWord 16 0x1504 = some (.describe 0x04 0x15)
    ∧ decodeTableWord 4 0b0011 = some .s3WriteWait
    ∧ decodeTableWord 8 0x0B = some .exitClose
    ∧ decodeTableWord 3 0b001 = some (.setEscrowIntent true)
    ∧ decodeTableWord 3 0b010 = some (.setVerbose false)
    ∧ decodeTableWord 3 0b101 = some (.requestStop true)
    ∧ decodeTableWord 3 0b110 = some (.blockUntilStopped false)
    ∧ decodeTableWord 8 0x41 = some .stReturnedIdling
    ∧ decode Cfg.default .stateCode [0x04] = .instr .stEscrowed
    ∧ decode Cfg.default .stateCode [0x05] = .instr (.stUnknown 0x05)
    ∧ decode Cfg.default .evJammed [0x05] = .instr (.evJammed 0x05)
    ∧ decode Cfg.default .creditByte [0x28] = .instr (.crDenomination 0x28)

/-! ## Frame codec -/

/-- CHECKSUM (40_frame_codec.md R80): the exclusive-or of the bytes at offsets 1 to 5 of any sequence of at least six
bytes; nothing else changes. -/
def Obligations.ChecksumFoldsOffsetsOneToFive : Prop :=
  ∀ (s : State) (b0 b1 b2 b3 b4 b5 : Byte) (rest : List Byte),
    exec (.checksum (b0 :: b1 :: b2 :: b3 :: b4 :: b5 :: rest)) s
      = .next { s with ret := .byte (b1 ^^^ b2 ^^^ b3 ^^^ b4 ^^^ b5) }

/-- BUILD_OUTBOUND (40_frame_codec.md R82): the eight bytes of its pseudocode; no register is read or written. -/
def Obligations.BuildOutboundGivesTheEightBytes : Prop :=
  ∀ (s : State) (h e : Bool),
    exec (.buildOutbound h e) s
      = .next { s with
          ret := .frame #v[s.cfg.stx, s.cfg.len, s.cfg.cmdPattern ||| (if h then 0x01 else 0x00), s.cfg.cmdByte,
            s.cfg.escBase ||| (if e then 0x20 else 0x00), s.cfg.rsvd, s.cfg.etx,
            s.cfg.len ^^^ (s.cfg.cmdPattern ||| (if h then 0x01 else 0x00)) ^^^ s.cfg.cmdByte
              ^^^ (s.cfg.escBase ||| (if e then 0x20 else 0x00)) ^^^ s.cfg.rsvd] }

/-- The laws of the checksum and of BUILD_OUTBOUND (40_frame_codec.md R81, R83): escrow-control bit, handshake bit,
independence of the two operands, purity, the four checksums, and with the default `Cfg` bit 7 clear and exactly the
four frames of 30_encoding.md R53. -/
def Obligations.OutboundFrameLaws : Prop :=
  ∀ cfg : Cfg, cfg.wf = true → ∃ F : Bool → Bool → Vector Byte 8,
    (∀ (s : State) (h e : Bool), s.cfg = cfg → exec (.buildOutbound h e) s = .next { s with ret := .frame (F h e) })
      ∧ ∀ h e,
        ((F h e)[4] &&& 0x20 ≠ 0 ↔ e = true)
        ∧ (F h e)[2] &&& 0x01 = (if h then 0x01 else 0x00)
        ∧ (F h e)[7] = (F h e)[1] ^^^ (F h e)[2] ^^^ (F h e)[3] ^^^ (F h e)[4] ^^^ (F h e)[5]
        ∧ (F h e)[1] ^^^ (F h e)[2] ^^^ (F h e)[3] ^^^ (F h e)[4] ^^^ (F h e)[5] ^^^ (F h e)[7] = 0
        ∧ (F (!h) e)[7] = (F h e)[7] ^^^ 0x01 ∧ (F h (!e))[7] = (F h e)[7] ^^^ 0x20
        ∧ (F h (!e))[2] = (F h e)[2] ∧ (F (!h) e)[4] = (F h e)[4]
        ∧ (F h e)[7] = cfg.len ^^^ cfg.cmdPattern ^^^ cfg.cmdByte ^^^ cfg.escBase ^^^ cfg.rsvd
            ^^^ (if h then 0x01 else 0x00) ^^^ (if e then 0x20 else 0x00)
        ∧ (∀ h' e', (F h' e')[0] = (F h e)[0] ∧ (F h' e')[1] = (F h e)[1] ∧ (F h' e')[3] = (F h e)[3]
            ∧ (F h' e')[5] = (F h e)[5] ∧ (F h' e')[6] = (F h e)[6])
        ∧ (cfg = Cfg.default → (∀ b ∈ (F h e).toList, b.getLsbD 7 = false)
            ∧ F false false = #v[0x02, 0x08, 0x10, 0x7F, 0x10, 0x00, 0x03, 0x77]
            ∧ F false true = #v[0x02, 0x08, 0x10, 0x7F, 0x30, 0x00, 0x03, 0x57]
            ∧ F true false = #v[0x02, 0x08, 0x11, 0x7F, 0x10, 0x00, 0x03, 0x76]
            ∧ F true true = #v[0x02, 0x08, 0x11, 0x7F, 0x30, 0x00, 0x03, 0x56])

/-- PARSE_INBOUND (40_frame_codec.md R84): FrameTooShort below six bytes, else the bytes at the three offsets. -/
def Obligations.ParseInboundReadsByPosition : Prop :=
  ∀ (s : State) (b : List Byte), s.cfg.wf = true →
    (b.length < 6 → exec (.parseInbound b) s = .next { s with ret := .parsed (.tooShort b.length) })
      ∧ (6 ≤ b.length → ∃ st ev cr, b[s.cfg.stateOff]? = some st ∧ b[s.cfg.eventOff]? = some ev ∧ b[5]? = some cr
          ∧ exec (.parseInbound b) s = .next { s with ret := .parsed (.frame ⟨st, ev, cr⟩) })

/-- The leniency of PARSE_INBOUND (40_frame_codec.md R85): the result depends on the three bytes and nothing else. -/
def Obligations.ParseInboundIgnoresEveryOtherByte : Prop :=
  ∀ (s : State) (a b : List Byte), s.cfg.wf = true → 6 ≤ a.length → 6 ≤ b.length →
    a[s.cfg.stateOff]? = b[s.cfg.stateOff]? → a[s.cfg.eventOff]? = b[s.cfg.eventOff]? → a[5]? = b[5]? →
    ∃ r, exec (.parseInbound a) s = .next { s with ret := .parsed r }
      ∧ exec (.parseInbound b) s = .next { s with ret := .parsed r }

/-! ## Status interpreter -/

/-- PRIMARY_LABEL (41_status_interpreter.md R90): the label whose code is exactly the byte; for any other byte the
unknown label, the empty text and a diagnostic. -/
def Obligations.PrimaryLabelIsByExactCode : Prop :=
  ∀ (s : State) (b : Byte), s.cfg.wf = true → ∃ l : Label,
    exec (.primaryLabel b) s
        = .next { s with ret := .label l (labelText s.cfg l) (if b ∈ s.cfg.codes.all then none else some b) }
      ∧ (∀ l', codeOf s.cfg l' = some b → l = l')
      ∧ (b ∈ s.cfg.codes.all → codeOf s.cfg l = some b)
      ∧ (b ∉ s.cfg.codes.all → l = .unknown ∧ labelText s.cfg l = "")

/-- ESCROW_DETECT and ACCEPT_CLASS (41_status_interpreter.md R91, R97) and the same two tested bits as rows of the
table (30_encoding.md R56): bits 2 and 4 of the raw byte, whatever code it is. That a row is a reading left in the
result port is the model's choice (log entry 4). -/
def Obligations.EscrowAndAcceptTestsReadRawBits : Prop :=
  ∀ (s : State) (b : Byte),
    exec (.escrowDetect b) s = .next { s with ret := .bit (b.getLsbD 2) }
      ∧ exec (.acceptClass b) s = .next { s with ret := .bit (b.getLsbD 4) }
      ∧ exec (.stEscrowBit b) s = .next { s with ret := .bit (b.getLsbD 2) }
      ∧ exec (.stAcceptClassBit b) s = .next { s with ret := .bit (b.getLsbD 4) }

/-- EVENT_LABELS (41_status_interpreter.md R92): the low four bits, and their labels in the fixed order 1, 2, 4, 8.
CASSETTE_MARK (R93): the marker appears exactly when bit 0x10 is clear. -/
def Obligations.EventLabelsAndCassetteMarker : Prop :=
  ∀ (s : State) (e : Byte),
    exec (.eventLabels e) s = .next { s with
        ret := .events (e.extractLsb' 0 4)
          ((if e.getLsbD 0 then s.cfg.evLabels.cheated else "")
            ++ (if e.getLsbD 1 then s.cfg.evLabels.rejected else "")
            ++ (if e.getLsbD 2 then s.cfg.evLabels.jammed else "")
            ++ (if e.getLsbD 3 then s.cfg.evLabels.full else "")) }
      ∧ exec (.cassetteMark e) s
        = .next { s with ret := .mark (!e.getLsbD 4) (if e.getLsbD 4 then "" else s.cfg.cassetteMarker) }

/-- DESCRIBE (41_status_interpreter.md R94) is made of PRIMARY_LABEL, ESCROW_DETECT, EVENT_LABELS and CASSETTE_MARK:
its composite is their triple, its string their strings in that order. -/
def Obligations.DescribeIsMadeOfItsPieces : Prop :=
  ∀ (s : State) (b e : Byte), ∃ l t d esc ev et m mt,
    exec (.primaryLabel b) s = .next { s with ret := .label l t d }
      ∧ exec (.escrowDetect b) s = .next { s with ret := .bit esc }
      ∧ exec (.eventLabels e) s = .next { s with ret := .events ev et }
      ∧ exec (.cassetteMark e) s = .next { s with ret := .mark m mt }
      ∧ exec (.describe b e) s = .next { s with ret := .described ⟨l, ev, m⟩ (t ++ et ++ mt) esc d }

/-- What a composite forgets (41_status_interpreter.md R98 b, 30_encoding.md R62): two primary-state bytes of equal
label and two event bytes equal in bits 0 to 4 give the same composite and string. -/
def Obligations.CompositeForgetsTheOtherBits : Prop :=
  ∀ (s : State) (b b' e e' : Byte) (l : Label) (t : String) (d d' : Option Byte),
    exec (.primaryLabel b) s = .next { s with ret := .label l t d } →
    exec (.primaryLabel b') s = .next { s with ret := .label l t d' } → e &&& 0x1F = e' &&& 0x1F →
    ∃ c text esc esc',
      exec (.describe b e) s = .next { s with ret := .described c text esc d }
        ∧ exec (.describe b' e') s = .next { s with ret := .described c text esc' d' }

/-- CREDIT_DENOM and the credit field (41_status_interpreter.md R95, 30_encoding.md R63): bits 5 to 3 of the byte. That
the row CR_DENOMINATION is a reading of its field is the model's choice (log entry 4). -/
def Obligations.CreditFieldIsBitsFiveToThree : Prop :=
  ∀ (s : State) (c : Byte), ∃ d : Fin 8, d.val = c.toNat / 8 % 8
    ∧ exec (.creditDenom c) s = .next { s with ret := .denom d }
    ∧ exec (.crDenomination c) s = .next { s with ret := .denom d }

/-- The default strings meet the conditions of 00_scope.md R6; above all `render` is injective on the 320 triples
(41_status_interpreter.md R96). -/
def Obligations.DefaultStringsDecomposeUniquely : Prop :=
  Cfg.default.TextsWf

/-- The nine rows of the code table (30_encoding.md R57): each code reads as its own label and text, with the escrow
and accepting-class bits the byte has, and no diagnostic. -/
def Obligations.NineCodesReadAsTheirLabels : Prop :=
  ∀ s : State, s.cfg.wf = true →
    let reading (c : Byte) (l : Label) (text : String) : State :=
      { s with ret := .state ⟨c, l, text, c.getLsbD 2, c.getLsbD 4, none⟩ }
    exec .stIdling s = .next (reading s.cfg.codes.idling .idling s.cfg.labels.idling)
      ∧ exec .stAccepting s = .next (reading s.cfg.codes.accepting .accepting s.cfg.labels.accepting)
      ∧ exec .stEscrowed s = .next (reading 0x04 .escrowed s.cfg.labels.escrowed)
      ∧ exec .stStacking s = .next (reading s.cfg.codes.stacking .stacking s.cfg.labels.stacking)
      ∧ exec .stStacked s = .next (reading s.cfg.codes.stacked .stacked s.cfg.labels.stacked)
      ∧ exec .stReturning s = .next (reading s.cfg.codes.returning .returning s.cfg.labels.returning)
      ∧ exec .stReturned s = .next (reading s.cfg.codes.returned .returned s.cfg.labels.returned)
      ∧ exec .stStackedIdling s
        = .next (reading s.cfg.codes.stackedIdling .stackedIdling s.cfg.labels.stackedIdling)
      ∧ exec .stReturnedIdling s
        = .next (reading s.cfg.codes.returnedIdling .returnedIdling s.cfg.labels.returnedIdling)

/-- Any other byte (30_encoding.md R57, R64 a): the empty label and the diagnostic, and both bits still read. -/
def Obligations.UnknownCodeReadsAsEmptyLabel : Prop :=
  ∀ (s : State) (b : Byte), b ∉ s.cfg.codes.all →
    exec (.stUnknown b) s = .next { s with ret := .state ⟨b, .unknown, "", b.getLsbD 2, b.getLsbD 4, some b⟩ }

/-- The fields of the event byte (30_encoding.md R59, R60, R64 b): each bit by its own mask, with the label it
appends; bit 4 set means present and appends nothing; bits 5 to 7 are read by nothing. -/
def Obligations.EventBitsAreTestedOneByOne : Prop :=
  ∀ (s : State) (e : Byte),
    exec (.evCheated e) s
        = .next { s with ret := .flag (e.getLsbD 0) (if e.getLsbD 0 then s.cfg.evLabels.cheated else "") }
      ∧ exec (.evRejected e) s
        = .next { s with ret := .flag (e.getLsbD 1) (if e.getLsbD 1 then s.cfg.evLabels.rejected else "") }
      ∧ exec (.evJammed e) s
        = .next { s with ret := .flag (e.getLsbD 2) (if e.getLsbD 2 then s.cfg.evLabels.jammed else "") }
      ∧ exec (.evFull e) s
        = .next { s with ret := .flag (e.getLsbD 3) (if e.getLsbD 3 then s.cfg.evLabels.full else "") }
      ∧ exec (.evCassettePresent e) s
        = .next { s with ret := .flag (e.getLsbD 4) (if e.getLsbD 4 then "" else s.cfg.cassetteMarker) }
      ∧ exec (.evIgnored e) s = .next { s with ret := .nothing }

/-! ## Frames on the line -/

/-- POLL (30_encoding.md R50, R51, 42_acceptor_session.md R104): its frame stands in `TXBUF` and the transport takes
its eight bytes in offset order, when the write succeeds. That POLL is this, that `CYCLE_T` is carried and that
invocations are recorded is the model's choice (log entries 4, 7 and 13). -/
def Obligations.PollSendsItsFrame : Prop :=
  ∀ (s : State) (h e : Bool) (c : Byte), s.answers.txWriteFails = false →
    let frame : Vector Byte 8 := #v[s.cfg.stx, s.cfg.len, s.cfg.cmdPattern ||| (if h then 0x01 else 0x00),
      s.cfg.cmdByte, s.cfg.escBase ||| (if e then 0x20 else 0x00), s.cfg.rsvd, s.cfg.etx, c]
    exec (.poll h e c) s = .next { s with
      mem := { s.mem with txbuf := frame }
      calls := s.calls ++ [.txWrite]
      txs := s.txs ++ frame.toList
      cycleT := s.cycleT + s.cfg.tTurnaround
      phase := .s4 }

/-- Phase S3 with a POLL frame in `TXBUF` does what POLL does, in success and in failure: the frame leaves the block
through S3 only (43_host_interface.md R130). That POLL is this is the model's choice (log entry 4). -/
def Obligations.S3RunsThePollInTxbuf : Prop :=
  ∀ (s : State) (h e : Bool) (c : Byte), decode s.cfg .out8 s.mem.txbuf.toList = .instr (.poll h e c) →
    exec .s3WriteWait s = exec (.poll h e c) s

/-! ## The phases -/

/-- S0 (42_acceptor_session.md R101). -/
def Obligations.S0TestsRun : Prop :=
  ∀ s : State, exec .s0TestRun s = .next { s with cycleT := 0, phase := if s.run = true then .s1 else .exit }

/-- S1 (42_acceptor_session.md R102): `TXBUF` is BUILD_OUTBOUND of `HS` and `ESC`. -/
def Obligations.S1BuildsFromHsAndEsc : Prop :=
  ∀ s : State, ∃ F : Vector Byte 8,
    exec (.buildOutbound s.hs s.esc) s = .next { s with ret := .frame F }
      ∧ exec .s1Build s = .next { s with mem := { s.mem with txbuf := F }, phase := .s2 }

/-- S2 (42_acceptor_session.md R103): `HS` is complemented; `TXBUF` is not rebuilt. -/
def Obligations.S2ComplementsHandshake : Prop :=
  ∀ s : State, exec .s2FlipHs s = .next { s with hs := !s.hs, phase := .s3 }

/-- S3 when the write succeeds (42_acceptor_session.md R104, 43_host_interface.md R130): all eight bytes, offset 0
first, at the end of `TXS`; the turnaround wait shows in `CYCLE_T` alone. That `CYCLE_T` is carried and invocations are
recorded is the model's choice (log entries 7 and 13). -/
def Obligations.S3WritesTheWholeFrame : Prop :=
  ∀ s : State, s.answers.txWriteFails = false →
    exec .s3WriteWait s = .next { s with
      calls := s.calls ++ [.txWrite]
      txs := s.txs ++ s.mem.txbuf.toList
      cycleT := s.cycleT + s.cfg.tTurnaround
      phase := .s4 }

/-- S4 (42_acceptor_session.md R105): an empty query sends the cycle to S10 without a read; otherwise one read takes
exactly the bytes the query reported into `RXBUF`. That invocations are recorded is the model's choice (log entry 13). -/
def Obligations.S4DrainsWhatIsAvailable : Prop :=
  ∀ s : State, s.answers.rxAvailFails = false →
    (s.rxq = [] → exec .s4Drain s = .next { s with
        calls := s.calls ++ [.rxAvail], mem := { s.mem with rxlen := 0 }, phase := .s10 })
      ∧ (s.rxq ≠ [] → s.answers.rxReadFails = false → (∀ n, s.cfg.rxDepth = some n → s.rxq.length ≤ n) →
          exec .s4Drain s = .next { s with
            calls := s.calls ++ [.rxAvail, .rxRead]
            rxq := []
            mem := { s.mem with rxbuf := s.rxq, rxlen := s.rxq.length }
            phase := .s5 })

/-- S5 (42_acceptor_session.md R106, 60_exceptions.md R141): a short buffer gives the diagnostic and skips the cycle,
any other fills the three latches. -/
def Obligations.S5ParsesOrSkipsTheCycle : Prop :=
  ∀ (s : State) (b : List Byte), s.cfg.wf = true → b = s.mem.rxbuf.take s.mem.rxlen →
    (b.length < 6 → exec .s5Parse s = .next { s with
        out := s.out ++ [.diagnostic (.frameTooShort b.length)], phase := .s10 })
      ∧ (6 ≤ b.length → ∃ st ev cr, b[s.cfg.stateOff]? = some st ∧ b[s.cfg.eventOff]? = some ev ∧ b[5]? = some cr
          ∧ exec .s5Parse s = .next { s with stateB := st, eventB := ev, creditB := cr, phase := .s6 })

/-- S6 (42_acceptor_session.md R107, 60_exceptions.md R142): `STATUS`, `ESC_DEC` and `ESC` are DESCRIBE's, and an
unknown byte gives one diagnostic. -/
def Obligations.S6StoresWhatDescribeSays : Prop :=
  ∀ s : State, ∃ c text esc diag,
    exec (.describe s.stateB s.eventB) s = .next { s with ret := .described c text esc diag }
      ∧ exec .s6Interpret s = .next { s with
          out := s.out ++ (if s.stateB ∈ s.cfg.codes.all then [] else [.diagnostic (.unknownPrimaryState s.stateB)])
          status := c
          escDec := esc
          esc := s.stateB.getLsbD 2
          phase := .s7 }
      ∧ esc = s.stateB.getLsbD 2

/-- S7 (42_acceptor_session.md R108): emitted when nothing was reported yet or the string differs; suppressed, with
`LAST` untouched, when it is the same. -/
def Obligations.S7ReportsOnlyChanges : Prop :=
  ∀ s : State,
    ((∀ l, s.last = some l → render s.cfg s.status ≠ render s.cfg l) →
        exec .s7ChangeDetect s = .next { s with
          out := s.out ++ [.statusChange s.status], last := some s.status, phase := .s8 })
      ∧ (∀ l, s.last = some l → render s.cfg s.status = render s.cfg l →
        exec .s7ChangeDetect s = .next { s with phase := .s8 })

/-- Status-change suppression (42_acceptor_session.md R108): after S7 the same status is not reported again. -/
def Obligations.SameStatusIsReportedOnce : Prop :=
  ∀ s t : State, exec .s7ChangeDetect s = .next t → exec .s7ChangeDetect t = .next t

/-- S8 (42_acceptor_session.md R109): with `VERBOSE` the whole received buffer is traced, without it nothing is. -/
def Obligations.S8TracesInVerboseMode : Prop :=
  ∀ s : State,
    (s.verbose = true → exec .s8Trace s = .next { s with
        out := s.out ++ [.diagnostic (.trace (s.mem.rxbuf.take s.mem.rxlen))], phase := .s9 })
      ∧ (s.verbose = false → exec .s8Trace s = .next { s with phase := .s9 })

/-- S9 (42_acceptor_session.md R110): a non-zero denomination in an accepting-class state increments its own counter
and is reported with the counts after the increment; anything else changes nothing. -/
def Obligations.S9CountsGatedCredits : Prop :=
  ∀ (s : State) (d : Fin 8), d.val = s.creditB.toNat / 8 % 8 →
    (d ≠ 0 → s.stateB.getLsbD 4 = true → (∀ w, s.cfg.cntW = some w → s.cnt[d] + 1 < 2 ^ w) →
        exec .s9Credit s = .next { s with
          cnt := s.cnt.set d (s.cnt[d] + 1)
          out := s.out ++ [.billCredited d (s.cnt.set d (s.cnt[d] + 1))]
          phase := .s10 })
      ∧ (d = 0 ∨ s.stateB.getLsbD 4 = false → exec .s9Credit s = .next { s with phase := .s10 })

/-- S10 (42_acceptor_session.md R111): the remainder of the poll interval, clamped at zero, passes; only `PHASE` and
the elapsed time show it (that `CYCLE_T` is carried is the model's choice, log entry 7). -/
def Obligations.S10WaitsTheRemainder : Prop :=
  ∀ s : State, exec .s10Sleep s = .next { s with cycleT := max s.cycleT s.cfg.tPoll, phase := .s0 }

/-- EXIT when the close succeeds (42_acceptor_session.md R112): `OPEN` is cleared and the session is STOPPED; a host
that waits returns (43_host_interface.md R124). The wait as a flag and the record of invocations are the model's choice
(log entries 12 and 13). -/
def Obligations.ExitClosesTheTransport : Prop :=
  ∀ s : State, s.answers.closeFails = false →
    exec .exitClose s = .next { s with
      calls := s.calls ++ [.close], isOpen := false, phase := .stopped, hostWaiting := false }

/-! ## Errors -/

/-- The fatal path (60_exceptions.md R149) at each of the four places a transport operation can fail: `FATAL` is set,
a cleanup close is made unless `Close` itself failed and its own failure is dropped, `OPEN` is cleared, `Fatal` is
the last event, and `PHASE` is FAULTED; what stood before stands. A failing write leaves a prefix of the frame (U4; the
free value of log entry 5). The model's choice: that a failing read leaves a part of the queue in its order (log entry
6; 43_host_interface.md R132 says only "unspecified"), that a waiting host is released by a flag (log entry 12), and
that invocations and free values are counted (log entry 13). -/
def Obligations.TransportFailureTakesTheFatalPath : Prop :=
  ∀ s : State,
    (s.answers.txWriteFails = true → ∃ n, exec .s3WriteWait s = .next { s with
        txs := s.txs ++ s.mem.txbuf.toList.take n, calls := s.calls ++ [.txWrite, .close], draws := s.draws + 1
        fatal := some .txWrite, isOpen := false, out := s.out ++ [.fatal .txWrite], phase := .faulted
        hostWaiting := false })
      ∧ (s.answers.rxAvailFails = true → exec .s4Drain s = .next { s with
        calls := s.calls ++ [.rxAvail, .close]
        fatal := some .rxAvail, isOpen := false, out := s.out ++ [.fatal .rxAvail], phase := .faulted
        hostWaiting := false })
      ∧ (s.answers.rxAvailFails = false → s.rxq ≠ [] → (∀ n, s.cfg.rxDepth = some n → s.rxq.length ≤ n) →
        s.answers.rxReadFails = true → ∃ q, q.Sublist s.rxq ∧ exec .s4Drain s = .next { s with
        rxq := q, calls := s.calls ++ [.rxAvail, .rxRead, .close], draws := s.draws + 1
        fatal := some .rxRead, isOpen := false, out := s.out ++ [.fatal .rxRead], phase := .faulted
        hostWaiting := false })
      ∧ (s.answers.closeFails = true → exec .exitClose s = .next { s with
        calls := s.calls ++ [.close]
        fatal := some .close, isOpen := false, out := s.out ++ [.fatal .close], phase := .faulted
        hostWaiting := false })

/-- The three places where a meaning stops by name: the two stuck cases of 93_implementation_defined.md (U1, U5),
which need a finite `CNT_W` or `RX_DEPTH` (log entry 10), and CHECKSUM of fewer bytes than R80's operand has (the
model's choice, log entry 11). -/
def Obligations.FormsThatStopByName : Prop :=
  ∀ s : State,
    (∀ (d : Fin 8) (w : Nat), d.val = s.creditB.toNat / 8 % 8 → d ≠ 0 → s.stateB.getLsbD 4 = true →
        s.cfg.cntW = some w → 2 ^ w ≤ s.cnt[d] + 1 → exec .s9Credit s = .fault (.counterAtMaximum d))
      ∧ (∀ n, s.answers.rxAvailFails = false → s.cfg.rxDepth = some n → n < s.rxq.length →
        exec .s4Drain s = .fault (.receiveOverrun s.rxq.length))
      ∧ (∀ f : List Byte, f.length < 6 → exec (.checksum f) s = .refused (.checksumOperandTooShort f.length))

/-! ## Host commands -/

/-- The three stores (43_host_interface.md R121, R122, R123): each writes its own flag and nothing else, in every
state. -/
def Obligations.HostStoresWriteOneFlag : Prop :=
  ∀ (s : State) (a x : Bool),
    exec (.setEscrowIntent a) s = .next { s with esc := a }
      ∧ exec (.setVerbose a) s = .next { s with verbose := a }
      ∧ exec (.requestStop x) s = .next { s with run := false }

/-- BLOCK_UNTIL_STOPPED (43_host_interface.md R124): it returns at once in STOPPED or FAULTED and waits in every other
phase; no register is written. The wait itself is the model's flag (log entry 12). -/
def Obligations.BlockUntilStoppedWaits : Prop :=
  ∀ (s : State) (x : Bool),
    (s.phase = .stopped ∨ s.phase = .faulted → exec (.blockUntilStopped x) s = .next { s with hostWaiting := false })
      ∧ (s.phase ≠ .stopped → s.phase ≠ .faulted →
        exec (.blockUntilStopped x) s = .next { s with hostWaiting := true })

/-- What lifts the host's wait is a step of the worker, into STOPPED or FAULTED (43_host_interface.md R124). -/
def Obligations.OnlyTheWorkerLiftsTheWait : Prop :=
  ∀ s t : State, s.hostWaiting = true → step s = .next t → t.hostWaiting = false →
    (s.sched = [] ∨ ∃ ts, s.sched = .worker :: ts)
      ∧ (s.phase = .s3 ∨ s.phase = .s4 ∨ s.phase = .exit) ∧ t.ended = true

/-- What the host can do to the block (43_host_interface.md R120): its turn changes `ESC`, `VERBOSE` and `RUN`, its own
queue and its own wait, and nothing else, and it never sets `RUN` again. -/
def Obligations.HostTurnTouchesOnlyItsFlags : Prop :=
  ∀ (s t : State) (ts : List Turn), s.sched = .host :: ts → step s = .next t →
    t = { s with
        esc := t.esc, verbose := t.verbose, run := t.run, hostQ := t.hostQ, hostWaiting := t.hostWaiting, sched := ts }
      ∧ (s.run = false → t.run = false)

/-- A SET_ESCROW_INTENT that lands after S6 and before S1 decides the next frame (43_host_interface.md R121,
70_reset_and_hazards.md R167): it is issued at S7, S8, S9, S10, S0 or S1, and the host issues no other
SET_ESCROW_INTENT in the turns that are scheduled; the rest of the schedule is anything. Then the first time S2 is
reached (no S6 lies between) the escrow-control bit of `TXBUF` is its argument; and S2 is reached when nothing stops
the session or the machine before: `RUN` is 1 and no stop is requested, no counter is finite, and every scheduled turn
is an agent's. The schedule is the model's form of the interleaving (log entry 8). -/
def Obligations.HostIntentReachesTheNextFrame : Prop :=
  ∀ (s : State) (a : Bool) (ts : List Turn) (q : List (BitVec 3)), s.cfg.wf = true →
    s.phase ∈ [Phase.s7, .s8, .s9, .s10, .s0, .s1] → s.hostWaiting = false → s.sched = .host :: ts →
    s.hostQ = (if a then 0b001 else 0b000) :: q → (∀ c ∈ q.take (ts.count .host), c ≠ 0b000 ∧ c ≠ 0b001) →
    let firstAtS2 (n : Nat) (t : State) : Prop :=
      steps n s = .next t ∧ t.phase = .s2 ∧ ∀ m u, m < n → steps m s = .next u → u.phase ≠ .s2
    (∀ n t, firstAtS2 n t → ∃ b, readTx t.mem 4 = some b ∧ (b &&& 0x20 ≠ 0 ↔ a = true))
      ∧ (s.run = true → s.cfg.cntW = none → (∀ p bs, .operate p bs ∉ ts) →
          (∀ c ∈ q.take (ts.count .host), c ≠ 0b100 ∧ c ≠ 0b101) → ∃ n t, firstAtS2 n t)

/-! ## The machine -/

/-- A step runs the decoded instruction, whoever's turn it is (10_state.md R17, 20_memory.md R41): the worker what
`PHASE` decodes to, the host what its next code decodes to, an arrival the frame it decodes to, and an operation
turn what its bytes decode to. Around `exec` a step only takes the turn off the schedule and, for the host, the code
off its queue. -/
def Obligations.StepRunsTheDecodedInstruction : Prop :=
  ∀ (s : State) (i : Instr),
    (s.sched = [] → decode s.cfg .phase [s.phase.code] = .instr i → step s = exec i s)
      ∧ (∀ ts, s.sched = .worker :: ts → decode s.cfg .phase [s.phase.code] = .instr i →
          step s = exec i { s with sched := ts })
      ∧ (∀ ts c q, s.sched = .host :: ts → s.hostWaiting = false → s.hostQ = c :: q →
          decode s.cfg .hostCmd [c.setWidth 8] = .instr i → step s = exec i { s with sched := ts, hostQ := q })
      ∧ (∀ ts bs, s.sched = .arrive bs :: ts → decode s.cfg .in6 bs = .instr i →
          step s = exec i { s with sched := ts })
      ∧ (∀ ts p bs, s.sched = .operate p bs :: ts → p.isCombinational = true → decode s.cfg p bs = .instr i →
          step s = exec i { s with sched := ts })

/-- The environment's turns (20_memory.md R37, U6): bytes join the end of the queue, unvalidated (30_encoding.md R55),
answers change, time passes; the block's registers do not. STATUS (R54) is such an arrival. -/
def Obligations.EnvironmentTurnsLeaveTheBlockAlone : Prop :=
  ∀ (s : State) (ts : List Turn),
    (∀ frame, exec (.status frame) s = .next { s with rxq := s.rxq ++ frame })
      ∧ (∀ bs, s.sched = .arrive bs :: ts → step s = .next { s with sched := ts, rxq := s.rxq ++ bs })
      ∧ (∀ a, s.sched = .transport a :: ts → step s = .next { s with sched := ts, answers := a })
      ∧ (∀ ms, s.sched = .elapse ms :: ts → step s = .next { s with sched := ts, cycleT := s.cycleT + ms })

/-- No encoding makes the block fault and no command is refused (30_encoding.md R64, 43_host_interface.md R120): with
unbounded counters and buffer, a step of the worker, the host or the environment always has a next state. -/
def Obligations.EveryTurnOfTheAgentsCompletes : Prop :=
  ∀ s : State, s.cfg.cntW = none → s.cfg.rxDepth = none → (∀ p bs ts, s.sched ≠ .operate p bs :: ts) →
    ∃ t, step s = .next t

/-- The codec, the interpreter and the readings are pure (41_status_interpreter.md R98 a): a turn that evaluates one
changes the result port and nothing else. -/
def Obligations.OperationTurnsArePure : Prop :=
  ∀ (s t : State) (p : Port) (bs : List Byte) (ts : List Turn), s.sched = .operate p bs :: ts → step s = .next t →
    t = { s with sched := ts, ret := t.ret }

/-- The reset values the spec gives (10_state.md R24, 70_reset_and_hazards.md R161); the values of the buffers and
latches, and of `RXQ`, are the model's (log entry 1) and are not stated here. -/
def Obligations.ResetValues : Prop :=
  ∀ cfg : Cfg, let s := State.resetWith cfg
    s.cfg = cfg ∧ s.hs = cfg.hsInit ∧ s.esc = false ∧ s.last = cfg.lastInit ∧ (∀ i : Fin 8, s.cnt[i] = 0)
      ∧ s.run = true ∧ s.verbose = false ∧ s.phase = .s0 ∧ s.mem.rxlen = 0 ∧ s.isOpen = true ∧ s.fatal = none
      ∧ s.cycleT = 0 ∧ s.txs = [] ∧ s.out = []

/-- The first cycle (70_reset_and_hazards.md R163): four worker phases after reset, the transmit stream is
BUILD_OUTBOUND of `HS_INIT` and 0, whatever the receive queue already held; with the defaults the bytes are the
rule's. That the four steps are the worker's and that the write succeeds come from the reset state's empty schedule
(log entry 8, unsafe for exactly this run) and its succeeding answers (log entry 1), the model's choices; the step lemma
behind it, for every schedule and answer, is `EveryStepKeepsFramed`. -/
def Obligations.FirstCycleSendsTheFirstFrame : Prop :=
  ∀ (cfg : Cfg) (q : List Byte), ∃ (t : State) (F : Vector Byte 8),
    steps 4 { State.resetWith cfg with rxq := q } = .next t
      ∧ exec (.buildOutbound cfg.hsInit false) (State.resetWith cfg)
        = .next { State.resetWith cfg with ret := .frame F }
      ∧ t.txs = F.toList ∧ t.hs = !cfg.hsInit ∧ t.rxq = q
      ∧ (cfg = Cfg.default → t.txs = [0x02, 0x08, 0x10, 0x7F, 0x10, 0x00, 0x03, 0x77])

/-! ## Invariants and whole-machine rules -/

/-- The two invariants hold at reset, for every well-formed `Cfg` and whatever the host and the environment are
going to do. -/
def Obligations.ResetIsConsistentAndFramed : Prop :=
  ∀ (cfg : Cfg) (sched : List Turn) (hostQ : List (BitVec 3)) (a : Answers) (q : List Byte), cfg.wf = true →
    State.Consistent { State.resetWith cfg with sched := sched, hostQ := hostQ, answers := a, rxq := q }
      ∧ State.Framed { State.resetWith cfg with sched := sched, hostQ := hostQ, answers := a, rxq := q }

/-- Every step keeps the relations between the registers (00_scope.md R6, 10_state.md R14, R21, 42_acceptor_session.md
R101, R113, 43_host_interface.md R124, 60_exceptions.md R149). -/
def Obligations.EveryStepKeepsConsistent : Prop :=
  ∀ s t : State, s.Consistent → step s = .next t → t.Consistent

/-- Every step keeps the transmit stream in frames that alternate (30_encoding.md R50, 42_acceptor_session.md R100,
R103, R115, R117). -/
def Obligations.EveryStepKeepsFramed : Prop :=
  ∀ s t : State, s.Framed → step s = .next t → t.Framed

/-- Handshake alternation (42_acceptor_session.md R115): in every run from reset, whatever the device answers,
whatever the host does and whatever fails, the third byte of frame `n` carries `HS_INIT ^ (n mod 2)` in bit 0. -/
def Obligations.HandshakeAlternatesInEveryRun : Prop :=
  ∀ (cfg : Cfg) (sched : List Turn) (hostQ : List (BitVec 3)) (a : Answers) (q : List Byte) (t : State),
    cfg.wf = true →
    Reaches { State.resetWith cfg with sched := sched, hostQ := hostQ, answers := a, rxq := q } t →
    ∀ (n : Nat) (b : Byte), t.txs[8 * n + 2]? = some b →
      b.getLsbD 0 = (cfg.hsInit ^^ (n % 2 == 1))

/-- A whole cycle is the function CYCLE (42_acceptor_session.md R114): the phases from S0 back to S0, with no host
command in between and no transport failure, give its registers, its frame and its events, for every `Cfg`, every
state of the registers and every drained byte sequence. -/
def Obligations.PhasesComputeTheCycleFunction : Prop :=
  ∀ s : State, s.cfg.wf = true → s.cfg.cntW = none → (∀ n, s.cfg.rxDepth = some n → s.rxq.length ≤ n) →
    s.phase = .s0 → s.run = true → s.sched = [] →
    s.answers.txWriteFails = false → s.answers.rxAvailFails = false → s.answers.rxReadFails = false →
    let r := cycle s.cfg s.hs s.last s.cnt s.esc s.rxq s.verbose
    ∃ t, steps (cycleSteps s.rxq.length) s = .next t
      ∧ t.phase = .s0 ∧ t.hs = r.hs ∧ t.esc = r.esc ∧ t.last = r.last ∧ t.cnt = r.cnt
      ∧ t.txs = s.txs ++ r.sent ∧ t.out = s.out ++ r.events ∧ t.rxq = []
      ∧ t.run = s.run ∧ t.verbose = s.verbose ∧ t.isOpen = s.isOpen ∧ t.fatal = s.fatal ∧ t.cfg = s.cfg

/-- Escrow feedback (42_acceptor_session.md R116): with no host command between S6 and the next S1, the escrow-control
bit of the next frame is bit 0x04 of the primary-state byte. -/
def Obligations.EscrowBitFeedsTheNextFrame : Prop :=
  ∀ s : State, s.cfg.wf = true → s.cfg.cntW = none → s.phase = .s6 → s.run = true → s.sched = [] →
    ∃ t b, steps 7 s = .next t ∧ t.phase = .s2 ∧ readTx t.mem 4 = some b
      ∧ (b &&& 0x20 ≠ 0 ↔ s.stateB &&& 0x04 ≠ 0)

/-- Safety (60_exceptions.md R156): as long as no transport operation fails, `FATAL` stays empty, and the premise
itself is kept. -/
def Obligations.ReliableTransportNeverFaults : Prop :=
  ∀ s t : State, s.safe = true → s.transportReliable = true → step s = .next t →
    t.safe = true ∧ t.transportReliable = true

/-- STOPPED and FAULTED are final (42_acceptor_session.md R113, 43_host_interface.md R125, 60_exceptions.md R150): the
worker's operation there changes nothing, and no step changes anything any more but the three host flags, the host's
and the environment's own state, the elapsed time and the result port. -/
def Obligations.EndedSessionsStayEnded : Prop :=
  (∀ s : State, exec .stopped s = .next s ∧ exec .faulted s = .next s)
    ∧ ∀ s t : State, s.ended = true → step s = .next t →
      t = { s with
          esc := t.esc, verbose := t.verbose, run := t.run, hostQ := t.hostQ, hostWaiting := t.hostWaiting
          sched := t.sched, rxq := t.rxq, answers := t.answers, cycleT := t.cycleT, ret := t.ret }

/-- The transport is closed exactly once (43_host_interface.md R133): the state is consistent and the number of `Close`
invocations is 1 when `OPEN` is 0 and 0 before. It holds at reset, whatever the host and the environment are going to
do, and every step keeps it. That invocations are recorded is the model's choice (log entry 13). -/
def Obligations.TransportIsClosedOnce : Prop :=
  let closedOnce (s : State) : Prop := s.Consistent ∧ s.calls.count .close = (if s.isOpen = true then 0 else 1)
  (∀ (cfg : Cfg) (sched : List Turn) (hostQ : List (BitVec 3)) (a : Answers) (q : List Byte), cfg.wf = true →
      closedOnce { State.resetWith cfg with sched := sched, hostQ := hostQ, answers := a, rxq := q })
    ∧ ∀ s t : State, closedOnce s → step s = .next t → closedOnce t

/-- What only grows (10_state.md R14, R23, 42_acceptor_session.md R117): no counter ever decreases, `CNT[0]` never
changes, and the transmit stream and the event trace are only appended to; `Cfg` never changes (20_memory.md R44). That
invocations are recorded, and so that this record only grows, is the model's choice (log entry 13). -/
def Obligations.HistoryOnlyGrows : Prop :=
  ∀ s t : State, step s = .next t →
    (∀ i : Fin 8, s.cnt[i] ≤ t.cnt[i]) ∧ t.cnt[0] = s.cnt[0] ∧ s.txs <+: t.txs ∧ s.out <+: t.out
      ∧ s.calls <+: t.calls ∧ t.cfg = s.cfg

/-- `RUN` is read at S0 only (42_acceptor_session.md R101, 60_exceptions.md R147): in every other phase a stop request
that is pending changes nothing the worker does. -/
def Obligations.StopIsSeenOnlyAtS0 : Prop :=
  ∀ (s : State) (b : Bool), s.sched = [] → s.phase ≠ .s0 →
    (∀ t, step s = .next t → step { s with run := b } = .next { t with run := b })
      ∧ (∀ r, step s = .fault r → step { s with run := b } = .fault r)
      ∧ (∀ r, step s = .refused r → step { s with run := b } = .refused r)

/-- No rule's result depends on a duration (70_reset_and_hazards.md R175): two states that differ only in the elapsed
time and in the two durations of `Cfg` take steps that differ only there. -/
def Obligations.NothingDependsOnTime : Prop :=
  let untimed (s : State) : State := { s with cycleT := 0, cfg := { s.cfg with tTurnaround := 0, tPoll := 0 } }
  ∀ s s' : State, untimed s = untimed s' →
    (∀ t, step s = .next t → ∃ t', step s' = .next t' ∧ untimed t = untimed t')
      ∧ (∀ r, step s = .fault r → step s' = .fault r)
      ∧ (∀ r, step s = .refused r → step s' = .refused r)

/-- The trace is an output only (60_exceptions.md R153): two states that differ only in `VERBOSE` and in `Trace`
events take steps that differ only there. -/
def Obligations.VerboseChangesOnlyTheTrace : Prop :=
  let isTrace (e : Event) : Bool := match e with
    | .diagnostic (.trace _) => true
    | _ => false
  let blind (s : State) : State := { s with verbose := false, out := s.out.filter fun e => !isTrace e }
  ∀ s s' : State, blind s = blind s' →
    (∀ t, step s = .next t → ∃ t', step s' = .next t' ∧ blind t = blind t')
      ∧ (∀ r, step s = .fault r → step s' = .fault r)
      ∧ (∀ r, step s = .refused r → step s' = .refused r)
end

