-- ==== Sys2Proof/Laws/State.lean ====
section
/-! SUPPORT. One lemma per field per update of State, true by rfl, so that no proof unfolds a record update; the
same for the buffers; and the form of memory, which every buffer operation keeps. -/

namespace Sys2Proof.Machine

section
variable (p : Phase) (s : State)

@[simp] theorem goto_cfg : (goto p s).cfg = s.cfg := rfl
@[simp] theorem goto_hs : (goto p s).hs = s.hs := rfl
@[simp] theorem goto_esc : (goto p s).esc = s.esc := rfl
@[simp] theorem goto_last : (goto p s).last = s.last := rfl
@[simp] theorem goto_cnt : (goto p s).cnt = s.cnt := rfl
@[simp] theorem goto_run : (goto p s).run = s.run := rfl
@[simp] theorem goto_verbose : (goto p s).verbose = s.verbose := rfl
@[simp] theorem goto_phase : (goto p s).phase = p := rfl
@[simp] theorem goto_mem : (goto p s).mem = s.mem := rfl
@[simp] theorem goto_stateB : (goto p s).stateB = s.stateB := rfl
@[simp] theorem goto_eventB : (goto p s).eventB = s.eventB := rfl
@[simp] theorem goto_creditB : (goto p s).creditB = s.creditB := rfl
@[simp] theorem goto_status : (goto p s).status = s.status := rfl
@[simp] theorem goto_escDec : (goto p s).escDec = s.escDec := rfl
@[simp] theorem goto_isOpen : (goto p s).isOpen = s.isOpen := rfl
@[simp] theorem goto_fatal : (goto p s).fatal = s.fatal := rfl
@[simp] theorem goto_cycleT : (goto p s).cycleT = s.cycleT := rfl
@[simp] theorem goto_rxq : (goto p s).rxq = s.rxq := rfl
@[simp] theorem goto_txs : (goto p s).txs = s.txs := rfl
@[simp] theorem goto_out : (goto p s).out = s.out := rfl
@[simp] theorem goto_answers : (goto p s).answers = s.answers := rfl
@[simp] theorem goto_sched : (goto p s).sched = s.sched := rfl
@[simp] theorem goto_hostQ : (goto p s).hostQ = s.hostQ := rfl
@[simp] theorem goto_hostWaiting : (goto p s).hostWaiting = s.hostWaiting := rfl
@[simp] theorem goto_calls : (goto p s).calls = s.calls := rfl
@[simp] theorem goto_draws : (goto p s).draws = s.draws := rfl
@[simp] theorem goto_ret : (goto p s).ret = s.ret := rfl

end

section
variable (e : Event) (s : State)

@[simp] theorem emit_cfg : (emit e s).cfg = s.cfg := rfl
@[simp] theorem emit_hs : (emit e s).hs = s.hs := rfl
@[simp] theorem emit_esc : (emit e s).esc = s.esc := rfl
@[simp] theorem emit_last : (emit e s).last = s.last := rfl
@[simp] theorem emit_cnt : (emit e s).cnt = s.cnt := rfl
@[simp] theorem emit_run : (emit e s).run = s.run := rfl
@[simp] theorem emit_verbose : (emit e s).verbose = s.verbose := rfl
@[simp] theorem emit_phase : (emit e s).phase = s.phase := rfl
@[simp] theorem emit_mem : (emit e s).mem = s.mem := rfl
@[simp] theorem emit_stateB : (emit e s).stateB = s.stateB := rfl
@[simp] theorem emit_eventB : (emit e s).eventB = s.eventB := rfl
@[simp] theorem emit_creditB : (emit e s).creditB = s.creditB := rfl
@[simp] theorem emit_status : (emit e s).status = s.status := rfl
@[simp] theorem emit_escDec : (emit e s).escDec = s.escDec := rfl
@[simp] theorem emit_isOpen : (emit e s).isOpen = s.isOpen := rfl
@[simp] theorem emit_fatal : (emit e s).fatal = s.fatal := rfl
@[simp] theorem emit_cycleT : (emit e s).cycleT = s.cycleT := rfl
@[simp] theorem emit_rxq : (emit e s).rxq = s.rxq := rfl
@[simp] theorem emit_txs : (emit e s).txs = s.txs := rfl
@[simp] theorem emit_out : (emit e s).out = s.out ++ [e] := rfl
@[simp] theorem emit_answers : (emit e s).answers = s.answers := rfl
@[simp] theorem emit_sched : (emit e s).sched = s.sched := rfl
@[simp] theorem emit_hostQ : (emit e s).hostQ = s.hostQ := rfl
@[simp] theorem emit_hostWaiting : (emit e s).hostWaiting = s.hostWaiting := rfl
@[simp] theorem emit_calls : (emit e s).calls = s.calls := rfl
@[simp] theorem emit_draws : (emit e s).draws = s.draws := rfl
@[simp] theorem emit_ret : (emit e s).ret = s.ret := rfl

end

section
variable (t : Nat) (s : State)

@[simp] theorem wait_cfg : (wait t s).cfg = s.cfg := rfl
@[simp] theorem wait_hs : (wait t s).hs = s.hs := rfl
@[simp] theorem wait_esc : (wait t s).esc = s.esc := rfl
@[simp] theorem wait_last : (wait t s).last = s.last := rfl
@[simp] theorem wait_cnt : (wait t s).cnt = s.cnt := rfl
@[simp] theorem wait_run : (wait t s).run = s.run := rfl
@[simp] theorem wait_verbose : (wait t s).verbose = s.verbose := rfl
@[simp] theorem wait_phase : (wait t s).phase = s.phase := rfl
@[simp] theorem wait_mem : (wait t s).mem = s.mem := rfl
@[simp] theorem wait_stateB : (wait t s).stateB = s.stateB := rfl
@[simp] theorem wait_eventB : (wait t s).eventB = s.eventB := rfl
@[simp] theorem wait_creditB : (wait t s).creditB = s.creditB := rfl
@[simp] theorem wait_status : (wait t s).status = s.status := rfl
@[simp] theorem wait_escDec : (wait t s).escDec = s.escDec := rfl
@[simp] theorem wait_isOpen : (wait t s).isOpen = s.isOpen := rfl
@[simp] theorem wait_fatal : (wait t s).fatal = s.fatal := rfl
@[simp] theorem wait_cycleT : (wait t s).cycleT = s.cycleT + t := rfl
@[simp] theorem wait_rxq : (wait t s).rxq = s.rxq := rfl
@[simp] theorem wait_txs : (wait t s).txs = s.txs := rfl
@[simp] theorem wait_out : (wait t s).out = s.out := rfl
@[simp] theorem wait_answers : (wait t s).answers = s.answers := rfl
@[simp] theorem wait_sched : (wait t s).sched = s.sched := rfl
@[simp] theorem wait_hostQ : (wait t s).hostQ = s.hostQ := rfl
@[simp] theorem wait_hostWaiting : (wait t s).hostWaiting = s.hostWaiting := rfl
@[simp] theorem wait_calls : (wait t s).calls = s.calls := rfl
@[simp] theorem wait_draws : (wait t s).draws = s.draws := rfl
@[simp] theorem wait_ret : (wait t s).ret = s.ret := rfl

end

section
variable (r : Ret) (s : State)

@[simp] theorem withRet_cfg : (withRet r s).cfg = s.cfg := rfl
@[simp] theorem withRet_hs : (withRet r s).hs = s.hs := rfl
@[simp] theorem withRet_esc : (withRet r s).esc = s.esc := rfl
@[simp] theorem withRet_last : (withRet r s).last = s.last := rfl
@[simp] theorem withRet_cnt : (withRet r s).cnt = s.cnt := rfl
@[simp] theorem withRet_run : (withRet r s).run = s.run := rfl
@[simp] theorem withRet_verbose : (withRet r s).verbose = s.verbose := rfl
@[simp] theorem withRet_phase : (withRet r s).phase = s.phase := rfl
@[simp] theorem withRet_mem : (withRet r s).mem = s.mem := rfl
@[simp] theorem withRet_stateB : (withRet r s).stateB = s.stateB := rfl
@[simp] theorem withRet_eventB : (withRet r s).eventB = s.eventB := rfl
@[simp] theorem withRet_creditB : (withRet r s).creditB = s.creditB := rfl
@[simp] theorem withRet_status : (withRet r s).status = s.status := rfl
@[simp] theorem withRet_escDec : (withRet r s).escDec = s.escDec := rfl
@[simp] theorem withRet_isOpen : (withRet r s).isOpen = s.isOpen := rfl
@[simp] theorem withRet_fatal : (withRet r s).fatal = s.fatal := rfl
@[simp] theorem withRet_cycleT : (withRet r s).cycleT = s.cycleT := rfl
@[simp] theorem withRet_rxq : (withRet r s).rxq = s.rxq := rfl
@[simp] theorem withRet_txs : (withRet r s).txs = s.txs := rfl
@[simp] theorem withRet_out : (withRet r s).out = s.out := rfl
@[simp] theorem withRet_answers : (withRet r s).answers = s.answers := rfl
@[simp] theorem withRet_sched : (withRet r s).sched = s.sched := rfl
@[simp] theorem withRet_hostQ : (withRet r s).hostQ = s.hostQ := rfl
@[simp] theorem withRet_hostWaiting : (withRet r s).hostWaiting = s.hostWaiting := rfl
@[simp] theorem withRet_calls : (withRet r s).calls = s.calls := rfl
@[simp] theorem withRet_draws : (withRet r s).draws = s.draws := rfl
@[simp] theorem withRet_ret : (withRet r s).ret = r := rfl

end

section
variable (op : TransportOp) (s : State)

@[simp] theorem invoke_cfg : (invoke op s).cfg = s.cfg := rfl
@[simp] theorem invoke_hs : (invoke op s).hs = s.hs := rfl
@[simp] theorem invoke_esc : (invoke op s).esc = s.esc := rfl
@[simp] theorem invoke_last : (invoke op s).last = s.last := rfl
@[simp] theorem invoke_cnt : (invoke op s).cnt = s.cnt := rfl
@[simp] theorem invoke_run : (invoke op s).run = s.run := rfl
@[simp] theorem invoke_verbose : (invoke op s).verbose = s.verbose := rfl
@[simp] theorem invoke_phase : (invoke op s).phase = s.phase := rfl
@[simp] theorem invoke_mem : (invoke op s).mem = s.mem := rfl
@[simp] theorem invoke_stateB : (invoke op s).stateB = s.stateB := rfl
@[simp] theorem invoke_eventB : (invoke op s).eventB = s.eventB := rfl
@[simp] theorem invoke_creditB : (invoke op s).creditB = s.creditB := rfl
@[simp] theorem invoke_status : (invoke op s).status = s.status := rfl
@[simp] theorem invoke_escDec : (invoke op s).escDec = s.escDec := rfl
@[simp] theorem invoke_isOpen : (invoke op s).isOpen = s.isOpen := rfl
@[simp] theorem invoke_fatal : (invoke op s).fatal = s.fatal := rfl
@[simp] theorem invoke_cycleT : (invoke op s).cycleT = s.cycleT := rfl
@[simp] theorem invoke_rxq : (invoke op s).rxq = s.rxq := rfl
@[simp] theorem invoke_txs : (invoke op s).txs = s.txs := rfl
@[simp] theorem invoke_out : (invoke op s).out = s.out := rfl
@[simp] theorem invoke_answers : (invoke op s).answers = s.answers := rfl
@[simp] theorem invoke_sched : (invoke op s).sched = s.sched := rfl
@[simp] theorem invoke_hostQ : (invoke op s).hostQ = s.hostQ := rfl
@[simp] theorem invoke_hostWaiting : (invoke op s).hostWaiting = s.hostWaiting := rfl
@[simp] theorem invoke_calls : (invoke op s).calls = s.calls ++ [op] := rfl
@[simp] theorem invoke_draws : (invoke op s).draws = s.draws := rfl
@[simp] theorem invoke_ret : (invoke op s).ret = s.ret := rfl

end

section
variable (p : Phase) (s : State)

@[simp] theorem terminate_cfg : (terminate p s).cfg = s.cfg := rfl
@[simp] theorem terminate_hs : (terminate p s).hs = s.hs := rfl
@[simp] theorem terminate_esc : (terminate p s).esc = s.esc := rfl
@[simp] theorem terminate_last : (terminate p s).last = s.last := rfl
@[simp] theorem terminate_cnt : (terminate p s).cnt = s.cnt := rfl
@[simp] theorem terminate_run : (terminate p s).run = s.run := rfl
@[simp] theorem terminate_verbose : (terminate p s).verbose = s.verbose := rfl
@[simp] theorem terminate_phase : (terminate p s).phase = p := rfl
@[simp] theorem terminate_mem : (terminate p s).mem = s.mem := rfl
@[simp] theorem terminate_stateB : (terminate p s).stateB = s.stateB := rfl
@[simp] theorem terminate_eventB : (terminate p s).eventB = s.eventB := rfl
@[simp] theorem terminate_creditB : (terminate p s).creditB = s.creditB := rfl
@[simp] theorem terminate_status : (terminate p s).status = s.status := rfl
@[simp] theorem terminate_escDec : (terminate p s).escDec = s.escDec := rfl
@[simp] theorem terminate_isOpen : (terminate p s).isOpen = false := rfl
@[simp] theorem terminate_fatal : (terminate p s).fatal = s.fatal := rfl
@[simp] theorem terminate_cycleT : (terminate p s).cycleT = s.cycleT := rfl
@[simp] theorem terminate_rxq : (terminate p s).rxq = s.rxq := rfl
@[simp] theorem terminate_txs : (terminate p s).txs = s.txs := rfl
@[simp] theorem terminate_out : (terminate p s).out = s.out := rfl
@[simp] theorem terminate_answers : (terminate p s).answers = s.answers := rfl
@[simp] theorem terminate_sched : (terminate p s).sched = s.sched := rfl
@[simp] theorem terminate_hostQ : (terminate p s).hostQ = s.hostQ := rfl
@[simp] theorem terminate_hostWaiting : (terminate p s).hostWaiting = false := rfl
@[simp] theorem terminate_calls : (terminate p s).calls = s.calls := rfl
@[simp] theorem terminate_draws : (terminate p s).draws = s.draws := rfl
@[simp] theorem terminate_ret : (terminate p s).ret = s.ret := rfl

end

section
variable (bs : List Byte) (s : State)

@[simp] theorem arrive_cfg : (arrive bs s).cfg = s.cfg := rfl
@[simp] theorem arrive_hs : (arrive bs s).hs = s.hs := rfl
@[simp] theorem arrive_esc : (arrive bs s).esc = s.esc := rfl
@[simp] theorem arrive_last : (arrive bs s).last = s.last := rfl
@[simp] theorem arrive_cnt : (arrive bs s).cnt = s.cnt := rfl
@[simp] theorem arrive_run : (arrive bs s).run = s.run := rfl
@[simp] theorem arrive_verbose : (arrive bs s).verbose = s.verbose := rfl
@[simp] theorem arrive_phase : (arrive bs s).phase = s.phase := rfl
@[simp] theorem arrive_mem : (arrive bs s).mem = s.mem := rfl
@[simp] theorem arrive_stateB : (arrive bs s).stateB = s.stateB := rfl
@[simp] theorem arrive_eventB : (arrive bs s).eventB = s.eventB := rfl
@[simp] theorem arrive_creditB : (arrive bs s).creditB = s.creditB := rfl
@[simp] theorem arrive_status : (arrive bs s).status = s.status := rfl
@[simp] theorem arrive_escDec : (arrive bs s).escDec = s.escDec := rfl
@[simp] theorem arrive_isOpen : (arrive bs s).isOpen = s.isOpen := rfl
@[simp] theorem arrive_fatal : (arrive bs s).fatal = s.fatal := rfl
@[simp] theorem arrive_cycleT : (arrive bs s).cycleT = s.cycleT := rfl
@[simp] theorem arrive_rxq : (arrive bs s).rxq = s.rxq ++ bs := rfl
@[simp] theorem arrive_txs : (arrive bs s).txs = s.txs := rfl
@[simp] theorem arrive_out : (arrive bs s).out = s.out := rfl
@[simp] theorem arrive_answers : (arrive bs s).answers = s.answers := rfl
@[simp] theorem arrive_sched : (arrive bs s).sched = s.sched := rfl
@[simp] theorem arrive_hostQ : (arrive bs s).hostQ = s.hostQ := rfl
@[simp] theorem arrive_hostWaiting : (arrive bs s).hostWaiting = s.hostWaiting := rfl
@[simp] theorem arrive_calls : (arrive bs s).calls = s.calls := rfl
@[simp] theorem arrive_draws : (arrive bs s).draws = s.draws := rfl
@[simp] theorem arrive_ret : (arrive bs s).ret = s.ret := rfl

end

section
variable (m : Memory)

@[simp] theorem loadTx_txbuf (f : Vector Byte 8) : (loadTx f m).txbuf = f := rfl
@[simp] theorem loadTx_rxbuf (f : Vector Byte 8) : (loadTx f m).rxbuf = m.rxbuf := rfl
@[simp] theorem loadTx_rxlen (f : Vector Byte 8) : (loadTx f m).rxlen = m.rxlen := rfl
@[simp] theorem loadRx_txbuf (bs : List Byte) : (loadRx bs m).txbuf = m.txbuf := rfl
@[simp] theorem loadRx_rxbuf (bs : List Byte) : (loadRx bs m).rxbuf = bs := rfl
@[simp] theorem loadRx_rxlen (bs : List Byte) : (loadRx bs m).rxlen = bs.length := rfl
@[simp] theorem clearRx_txbuf : (clearRx m).txbuf = m.txbuf := rfl
@[simp] theorem clearRx_rxbuf : (clearRx m).rxbuf = m.rxbuf := rfl
@[simp] theorem clearRx_rxlen : (clearRx m).rxlen = 0 := rfl

/-- Reading the receive buffer after a drain gives the bytes drained. -/
@[simp] theorem received_loadRx (bs : List Byte) : received (loadRx bs m) = bs := by simp [received]

@[simp] theorem received_loadTx (f : Vector Byte 8) : received (loadTx f m) = received m := rfl

@[simp] theorem received_clearRx : received (clearRx m) = [] := by simp [received]

/-- Reading a byte of the transmit buffer after it is loaded gives the frame's byte. -/
@[simp] theorem readTx_loadTx (f : Vector Byte 8) (i : Nat) : readTx (loadTx f m) i = f[i]? := rfl

@[simp] theorem readTx_loadRx (bs : List Byte) (i : Nat) : readTx (loadRx bs m) i = readTx m i := rfl

@[simp] theorem readTx_clearRx (i : Nat) : readTx (clearRx m) i = readTx m i := rfl

@[simp] theorem loadTx_wf (f : Vector Byte 8) : (loadTx f m).wf = m.wf := rfl

@[simp] theorem loadRx_wf (bs : List Byte) : (loadRx bs m).wf = true := by simp [Memory.wf]

@[simp] theorem clearRx_wf : (clearRx m).wf = true := by simp [Memory.wf]

end

/-- The reset state's buffers have the form of memory. -/
theorem resetWith_mem_wf (cfg : Cfg) : (State.resetWith cfg).mem.wf = true := rfl

end Sys2Proof.Machine
end

