-- ==== Sys2Proof/Laws/Ops.lean ====
section
/-! SUPPORT. For each shared operation, once, everything it can do. -/

namespace Sys2Proof.Machine

/-- Emitting an optional diagnostic only appends to `OUT`. -/
theorem emitUnknown_eq (d : Option Byte) (s : State) :
    emitUnknown d s =
      { s with out := s.out ++ (d.toList.map fun b => .diagnostic (.unknownPrimaryState b)) } := by
  cases d <;> simp [emitUnknown, emit]

/-- `TxWrite` either appends every byte, or fails and appends a prefix. -/
theorem txWrite_eq (bytes : List Byte) (s : State) :
    txWrite bytes s =
      if s.answers.txWriteFails then
        .raised { s with
          calls := s.calls ++ [.txWrite]
          txs := s.txs ++ bytes.take (Config.failedWritePrefix s.draws)
          draws := s.draws + 1 }
      else .returned () { s with calls := s.calls ++ [.txWrite], txs := s.txs ++ bytes } := rfl

/-- `RxAvail` reports the queue's length or fails, and only records its invocation. -/
theorem rxAvail_eq (s : State) :
    rxAvail s =
      if s.answers.rxAvailFails then .raised { s with calls := s.calls ++ [.rxAvail] }
      else .returned s.rxq.length { s with calls := s.calls ++ [.rxAvail] } := rfl

/-- `RxRead` moves bytes off the front of the queue, or fails and loses some of them. -/
theorem rxRead_eq (n : Nat) (s : State) :
    rxRead n s =
      if s.answers.rxReadFails then
        .raised { s with
          calls := s.calls ++ [.rxRead]
          rxq := afterFailedRead s.draws n s.rxq
          draws := s.draws + 1 }
      else .returned (s.rxq.take n) { s with calls := s.calls ++ [.rxRead], rxq := s.rxq.drop n } := rfl

/-- `Close` only records its invocation, whichever way it ends. -/
theorem close_eq (s : State) :
    close s =
      if s.answers.closeFails then .raised { s with calls := s.calls ++ [.close] }
      else .returned () { s with calls := s.calls ++ [.close] } := rfl

/-- The state after a close is the same whether it failed or not. -/
theorem close_state (s : State) : (close s).state = { s with calls := s.calls ++ [.close] } := by
  rw [close_eq]
  split <;> rfl

/-- What a failing read leaves is a part of the queue, in order. -/
theorem afterFailedRead_sublist (draw n : Nat) (q : List Byte) : (afterFailedRead draw n q).Sublist q := by
  have h : ((q.zipIdx.filter fun bi => !(decide (bi.2 < n) && Config.failedReadTakes draw bi.2)).map
      Prod.fst).Sublist (q.zipIdx.map Prod.fst) := List.filter_sublist.map Prod.fst
  simpa [afterFailedRead] using h

/-- The fatal path, in full (60_exceptions.md R149): what it writes and nothing else. -/
theorem fatalPath_eq (op : TransportOp) (s : State) :
    fatalPath op s =
      { s with
        fatal := some op
        calls := s.calls ++ if op = .close then [] else [.close]
        isOpen := false
        out := s.out ++ [.fatal op]
        phase := .faulted
        hostWaiting := false } := by
  by_cases h : op = .close <;> simp [fatalPath, h, close_state, terminate, emit]

/-- Sending the frame in `TXBUF`: it is written and waited for, or the fatal path is taken. -/
theorem writeFrame_eq (s : State) :
    writeFrame s =
      if s.answers.txWriteFails then
        fatalPath .txWrite { s with
          calls := s.calls ++ [.txWrite]
          txs := s.txs ++ s.mem.txbuf.toList.take (Config.failedWritePrefix s.draws)
          draws := s.draws + 1 }
      else
        { s with
          calls := s.calls ++ [.txWrite]
          txs := s.txs ++ s.mem.txbuf.toList
          cycleT := s.cycleT + s.cfg.tTurnaround
          phase := .s4 } := by
  cases h : s.answers.txWriteFails <;> simp [writeFrame, txWrite_eq, h, goto, wait]

end Sys2Proof.Machine
end

