-- ==== Sys2Proof/Laws/Step.lean ====
section
/-! SUPPORT. What a step can be: the operation each phase names, the command each host code is, and the cases of
`fetch` (20_memory.md R41). -/

namespace Sys2Proof.Machine

/-- The operation a phase names. -/
def operationOf : Phase → Instr
  | .s0 => .s0TestRun
  | .s1 => .s1Build
  | .s2 => .s2FlipHs
  | .s3 => .s3WriteWait
  | .s4 => .s4Drain
  | .s5 => .s5Parse
  | .s6 => .s6Interpret
  | .s7 => .s7ChangeDetect
  | .s8 => .s8Trace
  | .s9 => .s9Credit
  | .s10 => .s10Sleep
  | .exit => .exitClose
  | .stopped => .stopped
  | .faulted => .faulted

/-- The phase register decodes to its operation, whatever the `Cfg` (R66). -/
theorem decode_phase (cfg : Cfg) (p : Phase) : decode cfg .phase [p.code] = .instr (operationOf p) := by
  cases p <;> rfl

/-- Every phase code names its phase again. -/
theorem phaseOfCode_code (p : Phase) : phaseOfCode p.code = some p := by cases p <;> rfl

/-- The command of a 3-bit code (R67). -/
def commandOf (c : BitVec 3) : Instr :=
  match c.getLsbD 2, c.getLsbD 1 with
  | false, false => .setEscrowIntent (c.getLsbD 0)
  | false, true => .setVerbose (c.getLsbD 0)
  | true, false => .requestStop (c.getLsbD 0)
  | true, true => .blockUntilStopped (c.getLsbD 0)

/-- Every 3-bit code is a command. -/
theorem decode_hostCmd (cfg : Cfg) (c : BitVec 3) : decode cfg .hostCmd [c.setWidth 8] = .instr (commandOf c) := by
  have h : ∀ c : BitVec 3, hostInstr (c.setWidth 8) = .instr (commandOf c) := by decide
  exact h c

/-- Bytes that arrive are a STATUS frame exactly when they are six or more (R54). -/
theorem decode_in6 (cfg : Cfg) (bs : List Byte) :
    decode cfg .in6 bs = if bs.length < 6 then .error (.tooShort bs.length) else .instr (.status bs) := rfl

@[simp] theorem fetchTurn_worker (s : State) : fetchTurn .worker s = .instr (operationOf s.phase) s := by
  simp [fetchTurn, decode_phase, fetchDecoded]

@[simp] theorem fetchTurn_transport (a : Answers) (s : State) :
    fetchTurn (.transport a) s = .moved { s with answers := a } := rfl

@[simp] theorem fetchTurn_elapse (ms : Nat) (s : State) : fetchTurn (.elapse ms) s = .moved (wait ms s) := rfl

/-- The host's turn: it waits, has no command left, or issues its next one. -/
theorem fetchTurn_host (s : State) :
    fetchTurn .host s =
      if s.hostWaiting then .moved s
      else
        match s.hostQ with
        | [] => .moved s
        | c :: q => .instr (commandOf c) { s with hostQ := q } := by
  cases hw : s.hostWaiting with
  | true => simp [fetchTurn, hw]
  | false => cases hq : s.hostQ <;> simp [fetchTurn, hw, hq, decode_hostCmd, fetchDecoded]

/-- A step in which nothing is scheduled is the worker's. -/
theorem step_idle (s : State) (h : s.sched = []) : step s = exec (operationOf s.phase) s := by
  simp [step, fetch, h]

/-- A step whose turn is the worker's. -/
theorem step_worker (s : State) (ts : List Turn) (h : s.sched = .worker :: ts) :
    step s = exec (operationOf s.phase) { s with sched := ts } := by
  simp [step, fetch, h]

/-- An arrival appends its bytes to the queue, whatever their number. -/
theorem step_arrive (s : State) (bs : List Byte) (ts : List Turn) (h : s.sched = .arrive bs :: ts) :
    step s = .next { s with sched := ts, rxq := s.rxq ++ bs } := by
  by_cases hl : bs.length < 6 <;> simp [step, fetch, h, fetchTurn, decode_in6, hl, exec, execStatus, arrive]

end Sys2Proof.Machine
end

