-- ==== Sys2Proof/Laws/Cases.lean ====
section
/-! SUPPORT. Inversion: what a step that answers a next state can have been, and what each phase can have done. -/

namespace Sys2Proof.Machine

/-- Everything a step can be, by the turn it takes. In each case `ts` is what is left of the schedule. -/
theorem step_cases {s t : State} (h : step s = .next t) : ∃ ts : List Turn,
    ((s.sched = [] ∧ ts = [] ∨ s.sched = .worker :: ts)
        ∧ exec (operationOf s.phase) { s with sched := ts } = .next t)
    ∨ (s.sched = .host :: ts ∧ (s.hostWaiting = true ∨ s.hostQ = []) ∧ t = { s with sched := ts })
    ∨ (∃ c q, s.sched = .host :: ts ∧ s.hostWaiting = false ∧ s.hostQ = c :: q
        ∧ exec (commandOf c) { s with sched := ts, hostQ := q } = .next t)
    ∨ (∃ bs, s.sched = .arrive bs :: ts ∧ t = { s with sched := ts, rxq := s.rxq ++ bs })
    ∨ (∃ a, s.sched = .transport a :: ts ∧ t = { s with sched := ts, answers := a })
    ∨ (∃ ms, s.sched = .elapse ms :: ts ∧ t = { s with sched := ts, cycleT := s.cycleT + ms })
    ∨ (∃ p bs i, s.sched = .operate p bs :: ts ∧ p.isCombinational = true ∧ decode s.cfg p bs = .instr i
        ∧ exec i { s with sched := ts } = .next t) := by
  cases hs : s.sched with
  | nil =>
    refine ⟨[], .inl ⟨.inl ⟨rfl, rfl⟩, ?_⟩⟩
    have he : ({ s with sched := [] } : State) = s := by rw [← hs]
    rw [he, ← step_idle s hs, h]
  | cons tn ts =>
    refine ⟨ts, ?_⟩
    cases tn with
    | worker => exact .inl ⟨.inr rfl, by rw [← step_worker s ts hs, h]⟩
    | host =>
      simp only [step, fetch, hs, fetchTurn_host] at h
      cases hw : s.hostWaiting with
      | true => simp_all
      | false =>
        cases hq : s.hostQ with
        | nil => simp_all
        | cons c q => simp_all
    | arrive bs =>
      rw [step_arrive s bs ts hs] at h
      simp_all
    | transport a =>
      simp only [step, fetch, hs, fetchTurn_transport] at h
      simp_all
    | elapse ms =>
      simp only [step, fetch, hs, fetchTurn_elapse, wait] at h
      simp_all
    | operate p bs =>
      simp only [step, fetch, hs, fetchTurn] at h
      cases hp : p.isCombinational with
      | false => simp [hp] at h
      | true =>
        cases hd : decode s.cfg p bs with
        | error e => simp [hp, hd, fetchDecoded] at h
        | instr i => simp_all [fetchDecoded]

/-- A host command writes its flag, or sets the host's wait. -/
theorem command_cases {c : BitVec 3} {s t : State} (h : exec (commandOf c) s = .next t) :
    t = { s with esc := t.esc } ∨ t = { s with verbose := t.verbose } ∨ t = { s with run := false }
      ∨ t = { s with hostWaiting := !s.phase.isTerminal } := by
  unfold commandOf at h
  split at h <;> simp only [exec, execSetEscrowIntent, execSetVerbose, execRequestStop, execBlockUntilStopped,
    Host.Outcome.next.injEq] at h <;> subst h <;> simp

/-- S3 sends the frame in `TXBUF`. -/
theorem exec_s3 (s : State) : exec .s3WriteWait s = .next (writeFrame s) := rfl

/-- Everything S4 can do (R105): fail at the query or at the read, find nothing, drain the queue, or be stuck at a
finite depth. -/
theorem exec_s4 (s : State) :
    exec .s4Drain s =
      if s.answers.rxAvailFails then .next (fatalPath .rxAvail { s with calls := s.calls ++ [.rxAvail] })
      else if s.rxq = [] then
        .next { s with calls := s.calls ++ [.rxAvail], mem := clearRx s.mem, phase := .s10 }
      else if exceedsDepth s.cfg s.rxq.length then .fault (.receiveOverrun s.rxq.length)
      else if s.answers.rxReadFails then
        .next (fatalPath .rxRead { s with
          calls := s.calls ++ [.rxAvail] ++ [.rxRead]
          rxq := afterFailedRead s.draws s.rxq.length s.rxq
          draws := s.draws + 1 })
      else
        .next { s with
          calls := s.calls ++ [.rxAvail] ++ [.rxRead]
          rxq := []
          mem := loadRx s.rxq s.mem
          phase := .s5 } := by
  cases ha : s.answers.rxAvailFails with
  | true => simp [exec, execS4Drain, rxAvail_eq, ha]
  | false =>
    cases hq : s.rxq with
    | nil => simp [exec, execS4Drain, rxAvail_eq, ha, hq, goto]
    | cons b q =>
      cases hd : exceedsDepth s.cfg (q.length + 1) with
      | true => simp [exec, execS4Drain, rxAvail_eq, ha, hq, hd]
      | false =>
        cases hr : s.answers.rxReadFails <;>
          simp [exec, execS4Drain, rxAvail_eq, rxRead_eq, ha, hq, hd, hr, goto]

/-- EXIT closes the transport, or takes the fatal path without a second close. -/
theorem exec_exit (s : State) :
    exec .exitClose s =
      if s.answers.closeFails then .next (fatalPath .close { s with calls := s.calls ++ [.close] })
      else .next (terminate .stopped { s with calls := s.calls ++ [.close] }) := by
  cases h : s.answers.closeFails <;> simp [exec, execExitClose, close_eq, h]

/-- A combinational operation leaves its result and nothing else, when it does not refuse. -/
theorem operation_cases {cfg : Cfg} {p : Port} {bs : List Byte} {i : Instr} {s t : State}
    (hp : p.isCombinational = true) (hd : decode cfg p bs = .instr i) (h : exec i s = .next t) :
    t = { s with ret := t.ret } := by
  have key : ∀ r : Ret, (Host.Outcome.next (withRet r s) : Host.Outcome State Fault Refusal) = .next t →
      t = { s with ret := t.ret } := by
    intro r hr
    cases hr
    rfl
  cases p <;> simp only [Port.isCombinational, Bool.false_eq_true] at hp <;>
    simp only [decode, decodeByte] at hd <;> (repeat' split at hd) <;>
    simp only [Decoded.instr.injEq, reduceCtorEq] at hd <;> subst hd <;>
    first
    | exact key _ h
    | (simp only [exec, execChecksum] at h
       split at h
       · exact absurd h (by simp)
       · exact key _ h)
    | (simp only [stateInstr] at h
       split at h <;> exact key _ h)

end Sys2Proof.Machine
end

