-- ==== Sys2Proof/Laws/PerInstr.lean ====
section
/-! SUPPORT. The per-instruction family `EncodedLength`: how many bytes an instruction has at its port (column
"width_bits" of spec/opcode_table.json; the `PHASE` and host codes of 4 and 3 bits stand in one byte), with the
codes of the last two ports inside their widths. -/

namespace Sys2Proof.Laws.EncodedLength

/-- The byte counts a port admits. -/
def admits (p : Port) (bs : List Byte) : Prop :=
  match p with
  | .out8 | .buildOutbound => bs.length = 8
  | .in6 | .checksum => 6 ≤ bs.length
  | .parseInbound => True
  | .describe => bs.length = 2
  | .phase => ∃ b : Byte, bs = [b] ∧ b.toNat < 14
  | .hostCmd => ∃ b : Byte, bs = [b] ∧ b.toNat < 8
  | _ => bs.length = 1

/-- A well-formed instruction is encoded in a number of bytes its port admits, whatever the `Cfg`. -/
def Statement (i : Instr) : Prop :=
  ∀ cfg : Cfg, i.wf cfg = true → admits (encode cfg i).1 (encode cfg i).2

theorem poll (h e : Bool) (c : Byte) : Statement (.poll h e c) := fun _ _ => rfl

theorem status (frame : List Byte) : Statement (.status frame) :=
  fun _ h => of_decide_eq_true (p := 6 ≤ frame.length) h

theorem checksum (f : List Byte) : Statement (.checksum f) :=
  fun _ h => of_decide_eq_true (p := 5 < f.length) h

theorem buildOutbound (h e : Bool) : Statement (.buildOutbound h e) := fun _ _ => rfl
theorem parseInbound (b : List Byte) : Statement (.parseInbound b) := fun _ _ => trivial
theorem primaryLabel (s : Byte) : Statement (.primaryLabel s) := fun _ _ => rfl
theorem escrowDetect (s : Byte) : Statement (.escrowDetect s) := fun _ _ => rfl
theorem eventLabels (e : Byte) : Statement (.eventLabels e) := fun _ _ => rfl
theorem cassetteMark (e : Byte) : Statement (.cassetteMark e) := fun _ _ => rfl
theorem describe (s e : Byte) : Statement (.describe s e) := fun _ _ => rfl
theorem creditDenom (c : Byte) : Statement (.creditDenom c) := fun _ _ => rfl
theorem acceptClass (s : Byte) : Statement (.acceptClass s) := fun _ _ => rfl
theorem stIdling : Statement .stIdling := fun _ _ => rfl
theorem stAccepting : Statement .stAccepting := fun _ _ => rfl
theorem stEscrowed : Statement .stEscrowed := fun _ _ => rfl
theorem stStacking : Statement .stStacking := fun _ _ => rfl
theorem stStacked : Statement .stStacked := fun _ _ => rfl
theorem stReturning : Statement .stReturning := fun _ _ => rfl
theorem stReturned : Statement .stReturned := fun _ _ => rfl
theorem stStackedIdling : Statement .stStackedIdling := fun _ _ => rfl
theorem stReturnedIdling : Statement .stReturnedIdling := fun _ _ => rfl
theorem stUnknown (s : Byte) : Statement (.stUnknown s) := fun _ _ => rfl
theorem stEscrowBit (s : Byte) : Statement (.stEscrowBit s) := fun _ _ => rfl
theorem stAcceptClassBit (s : Byte) : Statement (.stAcceptClassBit s) := fun _ _ => rfl
theorem evCheated (e : Byte) : Statement (.evCheated e) := fun _ _ => rfl
theorem evRejected (e : Byte) : Statement (.evRejected e) := fun _ _ => rfl
theorem evJammed (e : Byte) : Statement (.evJammed e) := fun _ _ => rfl
theorem evFull (e : Byte) : Statement (.evFull e) := fun _ _ => rfl
theorem evCassettePresent (e : Byte) : Statement (.evCassettePresent e) := fun _ _ => rfl
theorem evIgnored (e : Byte) : Statement (.evIgnored e) := fun _ _ => rfl
theorem crDenomination (c : Byte) : Statement (.crDenomination c) := fun _ _ => rfl
theorem s0TestRun : Statement .s0TestRun := fun _ _ => ⟨0, rfl, by decide⟩
theorem s1Build : Statement .s1Build := fun _ _ => ⟨1, rfl, by decide⟩
theorem s2FlipHs : Statement .s2FlipHs := fun _ _ => ⟨2, rfl, by decide⟩
theorem s3WriteWait : Statement .s3WriteWait := fun _ _ => ⟨3, rfl, by decide⟩
theorem s4Drain : Statement .s4Drain := fun _ _ => ⟨4, rfl, by decide⟩
theorem s5Parse : Statement .s5Parse := fun _ _ => ⟨5, rfl, by decide⟩
theorem s6Interpret : Statement .s6Interpret := fun _ _ => ⟨6, rfl, by decide⟩
theorem s7ChangeDetect : Statement .s7ChangeDetect := fun _ _ => ⟨7, rfl, by decide⟩
theorem s8Trace : Statement .s8Trace := fun _ _ => ⟨8, rfl, by decide⟩
theorem s9Credit : Statement .s9Credit := fun _ _ => ⟨9, rfl, by decide⟩
theorem s10Sleep : Statement .s10Sleep := fun _ _ => ⟨10, rfl, by decide⟩
theorem exitClose : Statement .exitClose := fun _ _ => ⟨11, rfl, by decide⟩
theorem stopped : Statement .stopped := fun _ _ => ⟨12, rfl, by decide⟩
theorem faulted : Statement .faulted := fun _ _ => ⟨13, rfl, by decide⟩

theorem setEscrowIntent (a : Bool) : Statement (.setEscrowIntent a) :=
  fun _ _ => ⟨hostByte 0x00 a, rfl, by cases a <;> decide⟩

theorem setVerbose (a : Bool) : Statement (.setVerbose a) :=
  fun _ _ => ⟨hostByte 0x02 a, rfl, by cases a <;> decide⟩

theorem requestStop (x : Bool) : Statement (.requestStop x) :=
  fun _ _ => ⟨hostByte 0x04 x, rfl, by cases x <;> decide⟩

theorem blockUntilStopped (x : Bool) : Statement (.blockUntilStopped x) :=
  fun _ _ => ⟨hostByte 0x06 x, rfl, by cases x <;> decide⟩

end Sys2Proof.Laws.EncodedLength
end

