-- ==== Sys2Proof/Tests/Slice0.lean ====
section
/-! SUPPORT. The model's own tests: ill-formed terms that the checks refuse, words written out from the tables of
30_encoding.md, one step of every operation with the values of 95_test_vectors.md, and for every obligation with
hypotheses a state that meets them. -/

namespace Sys2Proof.Tests

open Sys2Proof Sys2Proof.Machine

/-! ## Helpers -/

/-- The next state, where there is one. -/
def nextOf : Host.Outcome State Fault Refusal → Option State
  | .next s => some s
  | _ => none

/-- The result port after an operation on the reset state. -/
def retOf (i : Instr) : Option Ret := (nextOf (exec i State.reset)).map State.ret

/-- A state in a phase, otherwise as after reset. -/
def atPhase (p : Phase) : State := { State.reset with phase := p }

/-- `REPLY(01,10,00)` of 95_test_vectors.md: Idling, cassette present, no credit. -/
def idlingReply : List Byte := [0x02, 0x0B, 0x20, 0x01, 0x10, 0x00, 0x00, 0x12, 0x13, 0x03, 0x3B]

/-- Every operation fails. -/
def allFail : Answers := ⟨true, true, true, true⟩

/-- A state in a phase whose buffer holds bytes. -/
def withRx (p : Phase) (bs : List Byte) : State := { atPhase p with mem := loadRx bs State.reset.mem }

/-- A state at S9 with these two latches. -/
def credited (st cr : Byte) : State := { atPhase .s9 with stateB := st, creditB := cr }

/-! ## WellFormed refuses -/

theorem test_wf_poll_wrong_checksum : (Instr.poll false false 0x76).wf Cfg.default = false := by decide
theorem test_wf_poll : (Instr.poll false false 0x77).wf Cfg.default = true := by decide
theorem test_wf_status_short : (Instr.status [0x02, 0x0B, 0x20, 0x04, 0x10]).wf Cfg.default = false := by decide
theorem test_wf_checksum_short : (Instr.checksum [0x02, 0x08, 0x10, 0x7F, 0x10]).wf Cfg.default = false := by decide
theorem test_wf_unknown_is_known : (Instr.stUnknown 0x41).wf Cfg.default = false := by decide
theorem test_wf_unknown : (Instr.stUnknown 0x81).wf Cfg.default = true := by decide
theorem test_cfg_default : Cfg.default.wf = true := by decide
theorem test_cfg_handshake_bit_taken : ({ Cfg.default with cmdPattern := 0x11 } : Cfg).wf = false := by decide
theorem test_cfg_escrow_bit_taken : ({ Cfg.default with escBase := 0x30 } : Cfg).wf = false := by decide
theorem test_cfg_offsets_equal : ({ Cfg.default with eventOff := 3 } : Cfg).wf = false := by decide
theorem test_cfg_state_on_credit : ({ Cfg.default with stateOff := 5 } : Cfg).wf = false := by decide
theorem test_cfg_event_on_credit : ({ Cfg.default with eventOff := 5 } : Cfg).wf = false := by decide
theorem test_cfg_offset_outside : ({ Cfg.default with stateOff := 6 } : Cfg).wf = false := by decide
theorem test_cfg_event_outside : ({ Cfg.default with eventOff := 6 } : Cfg).wf = false := by decide
theorem test_cfg_equal_codes :
    ({ Cfg.default with codes := { Cfg.default.codes with idling := 0x02 } } : Cfg).wf = false := by decide
theorem test_cfg_escrowed_code :
    ({ Cfg.default with codes := { Cfg.default.codes with escrowed := 0x06 } } : Cfg).wf = false := by decide
theorem test_cfg_depth_too_small : ({ Cfg.default with rxDepth := some 5 } : Cfg).wf = false := by decide
theorem test_cfg_smallest_depth : ({ Cfg.default with rxDepth := some 6 } : Cfg).wf = true := by decide
theorem test_texts_refuse_empty_label :
    ¬ ({ Cfg.default with labels := { Cfg.default.labels with idling := "" } } : Cfg).TextsWf :=
  fun h => h.2.1 (by decide)

/-! ## Decoding: one word of every row, written out from its table -/

/-- R50, R53: the four default frames; R54: the shortest inbound frame. -/
theorem test_decode_frames :
    decode Cfg.default .out8 [0x02, 0x08, 0x10, 0x7F, 0x10, 0x00, 0x03, 0x77] = .instr (.poll false false 0x77)
      ∧ decode Cfg.default .out8 [0x02, 0x08, 0x10, 0x7F, 0x30, 0x00, 0x03, 0x57] = .instr (.poll false true 0x57)
      ∧ decode Cfg.default .out8 [0x02, 0x08, 0x11, 0x7F, 0x10, 0x00, 0x03, 0x76] = .instr (.poll true false 0x76)
      ∧ decode Cfg.default .out8 [0x02, 0x08, 0x11, 0x7F, 0x30, 0x00, 0x03, 0x56] = .instr (.poll true true 0x56)
      ∧ decode Cfg.default .in6 [0x02, 0x0B, 0x20, 0x04, 0x10, 0x00]
        = .instr (.status [0x02, 0x0B, 0x20, 0x04, 0x10, 0x00]) := by decide

/-- R80, R82, R84: operands and results of the codec's rows. -/
theorem test_decode_codec :
    decode Cfg.default .checksum [0x02, 0x08, 0x10, 0x7F, 0x10, 0x00]
        = .instr (.checksum [0x02, 0x08, 0x10, 0x7F, 0x10, 0x00])
      ∧ decode Cfg.default .buildOutbound [0x02, 0x08, 0x11, 0x7F, 0x30, 0x00, 0x03, 0x56]
        = .instr (.buildOutbound true true)
      ∧ decode Cfg.default .parseInbound [] = .instr (.parseInbound []) := by decide

/-- R90 to R95, R97: one operand byte, two for DESCRIBE. -/
theorem test_decode_interpreter :
    decode Cfg.default .primaryLabel [0x81] = .instr (.primaryLabel 0x81)
      ∧ decode Cfg.default .escrowDetect [0x04] = .instr (.escrowDetect 0x04)
      ∧ decode Cfg.default .eventLabels [0x05] = .instr (.eventLabels 0x05)
      ∧ decode Cfg.default .cassetteMark [0x10] = .instr (.cassetteMark 0x10)
      ∧ decode Cfg.default .describe [0x04, 0x15] = .instr (.describe 0x04 0x15)
      ∧ decode Cfg.default .creditDenom [0x28] = .instr (.creditDenom 0x28)
      ∧ decode Cfg.default .acceptClass [0x11] = .instr (.acceptClass 0x11) := by decide

/-- R57: the nine codes and two bytes that are none. -/
theorem test_decode_state_codes :
    decode Cfg.default .stateCode [0x01] = .instr .stIdling
      ∧ decode Cfg.default .stateCode [0x02] = .instr .stAccepting
      ∧ decode Cfg.default .stateCode [0x04] = .instr .stEscrowed
      ∧ decode Cfg.default .stateCode [0x08] = .instr .stStacking
      ∧ decode Cfg.default .stateCode [0x10] = .instr .stStacked
      ∧ decode Cfg.default .stateCode [0x20] = .instr .stReturning
      ∧ decode Cfg.default .stateCode [0x40] = .instr .stReturned
      ∧ decode Cfg.default .stateCode [0x11] = .instr .stStackedIdling
      ∧ decode Cfg.default .stateCode [0x41] = .instr .stReturnedIdling
      ∧ decode Cfg.default .stateCode [0x00] = .instr (.stUnknown 0x00)
      ∧ decode Cfg.default .stateCode [0x81] = .instr (.stUnknown 0x81) := by decide

/-- R56, R59, R63, R64: the fields tested on a raw byte. -/
theorem test_decode_fields :
    decode Cfg.default .stateEscrowBit [0x04] = .instr (.stEscrowBit 0x04)
      ∧ decode Cfg.default .stateAcceptClassBit [0x10] = .instr (.stAcceptClassBit 0x10)
      ∧ decode Cfg.default .evCheated [0x01] = .instr (.evCheated 0x01)
      ∧ decode Cfg.default .evRejected [0x02] = .instr (.evRejected 0x02)
      ∧ decode Cfg.default .evJammed [0x04] = .instr (.evJammed 0x04)
      ∧ decode Cfg.default .evFull [0x08] = .instr (.evFull 0x08)
      ∧ decode Cfg.default .evCassettePresent [0x10] = .instr (.evCassettePresent 0x10)
      ∧ decode Cfg.default .evIgnored [0xE0] = .instr (.evIgnored 0xE0)
      ∧ decode Cfg.default .creditByte [0x38] = .instr (.crDenomination 0x38) := by decide

/-- R66: the fourteen codes of `PHASE`. -/
theorem test_decode_phases :
    decode Cfg.default .phase [0b0000] = .instr .s0TestRun ∧ decode Cfg.default .phase [0b0001] = .instr .s1Build
      ∧ decode Cfg.default .phase [0b0010] = .instr .s2FlipHs
      ∧ decode Cfg.default .phase [0b0011] = .instr .s3WriteWait
      ∧ decode Cfg.default .phase [0b0100] = .instr .s4Drain ∧ decode Cfg.default .phase [0b0101] = .instr .s5Parse
      ∧ decode Cfg.default .phase [0b0110] = .instr .s6Interpret
      ∧ decode Cfg.default .phase [0b0111] = .instr .s7ChangeDetect
      ∧ decode Cfg.default .phase [0b1000] = .instr .s8Trace ∧ decode Cfg.default .phase [0b1001] = .instr .s9Credit
      ∧ decode Cfg.default .phase [0b1010] = .instr .s10Sleep
      ∧ decode Cfg.default .phase [0b1011] = .instr .exitClose
      ∧ decode Cfg.default .phase [0b1100] = .instr .stopped
      ∧ decode Cfg.default .phase [0b1101] = .instr .faulted := by decide

/-- R67: the eight host codes. -/
theorem test_decode_host_commands :
    decode Cfg.default .hostCmd [0b000] = .instr (.setEscrowIntent false)
      ∧ decode Cfg.default .hostCmd [0b001] = .instr (.setEscrowIntent true)
      ∧ decode Cfg.default .hostCmd [0b010] = .instr (.setVerbose false)
      ∧ decode Cfg.default .hostCmd [0b011] = .instr (.setVerbose true)
      ∧ decode Cfg.default .hostCmd [0b100] = .instr (.requestStop false)
      ∧ decode Cfg.default .hostCmd [0b101] = .instr (.requestStop true)
      ∧ decode Cfg.default .hostCmd [0b110] = .instr (.blockUntilStopped false)
      ∧ decode Cfg.default .hostCmd [0b111] = .instr (.blockUntilStopped true) := by decide

/-- What is no word of its port is rejected by name (R50, R51, R54, R66, R67). -/
theorem test_decode_rejects :
    decode Cfg.default .out8 [0x02, 0x08, 0x10, 0x7F, 0x10, 0x00, 0x03] = .error (.wrongLength 7)
      ∧ decode Cfg.default .out8 [0x03, 0x08, 0x10, 0x7F, 0x10, 0x00, 0x03, 0x77] = .error (.fixedByte 0)
      ∧ decode Cfg.default .out8 [0x02, 0x08, 0x12, 0x7F, 0x10, 0x00, 0x03, 0x77] = .error (.fixedByte 2)
      ∧ decode Cfg.default .out8 [0x02, 0x08, 0x10, 0x7F, 0x50, 0x00, 0x03, 0x77] = .error (.fixedByte 4)
      ∧ decode Cfg.default .buildOutbound [0x02, 0x08, 0x10, 0x7F, 0x10, 0x00, 0x03, 0x76] = .error .badChecksum
      ∧ decode Cfg.default .in6 [0x02, 0x0B, 0x20, 0x04, 0x10] = .error (.tooShort 5)
      ∧ decode Cfg.default .checksum [] = .error (.tooShort 0)
      ∧ decode Cfg.default .describe [0x04] = .error (.wrongLength 1)
      ∧ decode Cfg.default .stateCode [] = .error (.wrongLength 0)
      ∧ decode Cfg.default .phase [0b1110] = .error (.reservedPhase 14)
      ∧ decode Cfg.default .phase [0b1111] = .error (.reservedPhase 15)
      ∧ decode Cfg.default .hostCmd [0b1000] = .error (.reservedHostCode 8) := by decide

/-- A placed word is what the next step runs: the default frame leaves the block, a phase is performed, a code of
four bits and a code of three bits run. -/
theorem test_placed_words_run :
    (nextOf (step (State.reset.withFetchWord 64 0x770300107F100802))).map State.txs
        = some [0x02, 0x08, 0x10, 0x7F, 0x10, 0x00, 0x03, 0x77]
      ∧ (nextOf (step (State.reset.withFetchWord 48 0x001004200B02))).map State.rxq
        = some [0x02, 0x0B, 0x20, 0x04, 0x10, 0x00]
      ∧ (nextOf (step (State.reset.withFetchWord 8 0x02))).map State.hs = some true
      ∧ (nextOf (step (State.reset.withFetchWord 4 0b1011))).map State.phase = some .stopped
      ∧ (nextOf (step (State.reset.withFetchWord 3 0b011))).map State.verbose = some true
      ∧ (nextOf (step (State.reset.withFetchWord 8 0x81))).map State.ret
        = some (.state ⟨0x81, .unknown, "", false, false, some 0x81⟩) := by decide

/-- A turn that offers no operation is refused by name. -/
theorem test_step_refuses :
    step { State.reset with sched := [.operate .out8 []] } = .refused (.notCombinational .out8)
      ∧ step { State.reset with sched := [.operate .describe [0x01]] } = .refused (.undecodable (.wrongLength 1)) :=
  ⟨rfl, rfl⟩

/-! ## One step of each operation (95_test_vectors.md, Part 2) -/

/-- Families A and B. -/
theorem test_codec :
    retOf (.checksum [0x02, 0xAA, 0x55, 0xAA, 0x55, 0xAA, 0x03]) = some (.byte 0xAA)
      ∧ retOf (.checksum [0, 0xFF, 0xFF, 0xFF, 0xFF, 0x00]) = some (.byte 0x00)
      ∧ retOf (.buildOutbound true true) = some (.frame #v[0x02, 0x08, 0x11, 0x7F, 0x30, 0x00, 0x03, 0x56])
      ∧ (nextOf (exec (.buildOutbound true true)
          (State.resetWith { Cfg.default with cmdByte := 0x00, rsvd := 0x00 }))).map State.ret
        = some (.frame #v[0x02, 0x08, 0x11, 0x00, 0x30, 0x00, 0x03, 0x29]) := by decide

/-- Family C: the minimum, one byte less, and a reply misaligned by one stray byte. -/
theorem test_parse_inbound :
    retOf (.parseInbound [0x02, 0x0B, 0x20, 0x04, 0x10]) = some (.parsed (.tooShort 5))
      ∧ retOf (.parseInbound [0xFF, 0xFF, 0xFF, 0x11, 0x00, 0x38]) = some (.parsed (.frame ⟨0x11, 0x00, 0x38⟩))
      ∧ retOf (.parseInbound [0x00, 0x02, 0x0B, 0x20, 0x04, 0x10, 0x00, 0x00])
        = some (.parsed (.frame ⟨0x20, 0x04, 0x10⟩)) := by decide

/-- Family D. -/
theorem test_interpreter_state_byte :
    retOf (.primaryLabel 0x41) = some (.label .returnedIdling "Returned Idling " none)
      ∧ retOf (.primaryLabel 0x14) = some (.label .unknown "" (some 0x14))
      ∧ retOf (.escrowDetect 0x05) = some (.bit true) ∧ retOf (.escrowDetect 0xFB) = some (.bit false)
      ∧ retOf (.acceptClass 0x14) = some (.bit true) ∧ retOf (.acceptClass 0x41) = some (.bit false) := by decide

/-- Family E, and V5: the fixed order of the event labels. -/
theorem test_interpreter_event_byte :
    retOf (.eventLabels 0xF5) = some (.events 0b0101 "Cheated Jammed ")
      ∧ retOf (.eventLabels 0x0A) = some (.events 0b1010 "Rejected Full ")
      ∧ retOf (.cassetteMark 0xEF) = some (.mark true "CASSETTE MISSING")
      ∧ retOf (.cassetteMark 0x10) = some (.mark false "")
      ∧ retOf (.describe 0x01 0x05)
        = some (.described ⟨.idling, 0b0101, true⟩ "Idling Cheated Jammed CASSETTE MISSING" false none)
      ∧ retOf (.describe 0x05 0x10) = some (.described ⟨.unknown, 0, false⟩ "" true (some 0x05)) := by decide

/-- Family F. -/
theorem test_credit_field :
    retOf (.creditDenom 0x28) = some (.denom 5) ∧ retOf (.creditDenom 0xC7) = some (.denom 0)
      ∧ retOf (.crDenomination 0xCF) = some (.denom 1) ∧ retOf (.crDenomination 0xFF) = some (.denom 7) := by decide

/-- Family D, read as rows of the code table. -/
theorem test_state_readings :
    retOf .stIdling = some (.state ⟨0x01, .idling, "Idling ", false, false, none⟩)
      ∧ retOf .stAccepting = some (.state ⟨0x02, .accepting, "Accepting ", false, false, none⟩)
      ∧ retOf .stEscrowed = some (.state ⟨0x04, .escrowed, "Escrowed ", true, false, none⟩)
      ∧ retOf .stStacking = some (.state ⟨0x08, .stacking, "Stacking ", false, false, none⟩)
      ∧ retOf .stStacked = some (.state ⟨0x10, .stacked, "Stacked ", false, true, none⟩)
      ∧ retOf .stReturning = some (.state ⟨0x20, .returning, "Returning ", false, false, none⟩)
      ∧ retOf .stReturned = some (.state ⟨0x40, .returned, "Returned ", false, false, none⟩)
      ∧ retOf .stStackedIdling = some (.state ⟨0x11, .stackedIdling, "Stacked Idling ", false, true, none⟩)
      ∧ retOf .stReturnedIdling = some (.state ⟨0x41, .returnedIdling, "Returned Idling ", false, false, none⟩)
      ∧ retOf (.stUnknown 0xFF) = some (.state ⟨0xFF, .unknown, "", true, true, some 0xFF⟩) := by decide

/-- R56, R59, R60: each field by its own mask. -/
theorem test_field_readings :
    retOf (.stEscrowBit 0xFF) = some (.bit true) ∧ retOf (.stAcceptClassBit 0xEF) = some (.bit false)
      ∧ retOf (.evCheated 0x01) = some (.flag true "Cheated ") ∧ retOf (.evRejected 0xFD) = some (.flag false "")
      ∧ retOf (.evJammed 0x04) = some (.flag true "Jammed ") ∧ retOf (.evFull 0x08) = some (.flag true "Full ")
      ∧ retOf (.evCassettePresent 0x10) = some (.flag true "")
      ∧ retOf (.evCassettePresent 0xEF) = some (.flag false "CASSETTE MISSING")
      ∧ retOf (.evIgnored 0xE0) = some .nothing := by decide

/-- R101 to R104: the sending half of the cycle. -/
theorem test_sending_phases :
    (nextOf (exec .s0TestRun (atPhase .s0))).map State.phase = some .s1
      ∧ (nextOf (exec .s0TestRun { atPhase .s0 with run := false })).map State.phase = some .exit
      ∧ (nextOf (exec .s1Build { atPhase .s1 with hs := true, esc := true })).map (fun t => t.mem.txbuf)
        = some #v[0x02, 0x08, 0x11, 0x7F, 0x30, 0x00, 0x03, 0x56]
      ∧ (nextOf (exec .s2FlipHs (atPhase .s2))).map State.hs = some true
      ∧ (nextOf (exec (.poll false true 0x57) State.reset)).map State.txs
        = some [0x02, 0x08, 0x10, 0x7F, 0x30, 0x00, 0x03, 0x57]
      ∧ (nextOf (exec .s3WriteWait (atPhase .s3))).map (fun t => (t.txs.length, t.phase)) = some (8, .s4) := by decide

/-- R105, R106: the drain takes the whole queue; five bytes are too few, six are enough (Family I). -/
theorem test_receiving_phases :
    (nextOf (exec (.status [1, 2, 3, 4, 5, 6]) { State.reset with rxq := [9] })).map State.rxq
        = some [9, 1, 2, 3, 4, 5, 6]
      ∧ (nextOf (exec .s4Drain { atPhase .s4 with rxq := idlingReply })).map
          (fun t => (t.mem.rxbuf, t.mem.rxlen, t.rxq, t.phase)) = some (idlingReply, 11, [], .s5)
      ∧ (nextOf (exec .s4Drain (atPhase .s4))).map State.phase = some .s10
      ∧ (nextOf (exec .s5Parse (withRx .s5 [0x02, 0x0B, 0x20, 0x01, 0x10]))).map (fun t => (t.out, t.phase))
        = some ([.diagnostic (.frameTooShort 5)], .s10)
      ∧ (nextOf (exec .s5Parse (withRx .s5 [0x02, 0x0B, 0x20, 0x04, 0x10, 0x28]))).map
          (fun t => (t.stateB, t.eventB, t.creditB, t.phase)) = some (0x04, 0x10, 0x28, .s6) := by decide

/-- R107, R108: the unknown byte 0x07 of Family G, and a status reported once. -/
theorem test_interpreting_phases :
    (nextOf (exec .s6Interpret { atPhase .s6 with stateB := 0x07 })).map (fun t => (t.status, t.esc, t.out, t.phase))
        = some (⟨.unknown, 0, true⟩, true, [.diagnostic (.unknownPrimaryState 0x07)], .s7)
      ∧ (nextOf (exec .s7ChangeDetect { atPhase .s7 with status := ⟨.idling, 0, false⟩ })).map
          (fun t => (t.out, t.last)) = some ([.statusChange ⟨.idling, 0, false⟩], some ⟨.idling, 0, false⟩)
      ∧ (nextOf (exec .s7ChangeDetect (atPhase .s7))).map (fun t => (t.out, t.phase)) = some ([], .s8) := by decide

/-- R109 to R111: Family F's credit gate, the trace and the rest of the interval. -/
theorem test_reporting_phases :
    (nextOf (exec .s8Trace { withRx .s8 idlingReply with verbose := true })).map State.out
        = some [.diagnostic (.trace idlingReply)]
      ∧ (nextOf (exec .s9Credit (credited 0x14 0x38))).map (fun t => (t.cnt, t.out))
        = some (#v[0, 0, 0, 0, 0, 0, 0, 1], [.billCredited 7 #v[0, 0, 0, 0, 0, 0, 0, 1]])
      ∧ (nextOf (exec .s9Credit (credited 0x04 0x38))).map (fun t => (t.cnt, t.phase))
        = some (#v[0, 0, 0, 0, 0, 0, 0, 0], .s10)
      ∧ (nextOf (exec .s10Sleep { atPhase .s10 with cycleT := 140 })).map (fun t => (t.cycleT, t.phase))
        = some (140, .s0) := by decide

/-- R112, R113 and Family I: the ends of a session. -/
theorem test_ending_phases :
    (nextOf (exec .exitClose (atPhase .exit))).map (fun t => (t.isOpen, t.phase, t.fatal))
        = some (false, .stopped, none)
      ∧ (nextOf (exec .exitClose { atPhase .exit with answers := allFail })).map
          (fun t => (t.fatal, t.out, t.calls, t.phase)) = some (some .close, [.fatal .close], [.close], .faulted)
      ∧ (nextOf (exec .s4Drain { atPhase .s4 with answers := allFail })).map
          (fun t => (t.fatal, t.calls, t.isOpen)) = some (some .rxAvail, [.rxAvail, .close], false)
      ∧ (nextOf (exec .s3WriteWait { atPhase .s3 with answers := allFail })).map
          (fun t => (t.fatal, t.out, t.phase)) = some (some .txWrite, [.fatal .txWrite], .faulted)
      ∧ nextOf (exec .stopped (atPhase .stopped)) = some (atPhase .stopped)
      ∧ nextOf (exec .faulted (atPhase .faulted)) = some (atPhase .faulted) := by decide

/-- Family H. -/
theorem test_host_commands :
    (nextOf (exec (.setEscrowIntent true) State.reset)).map State.esc = some true
      ∧ (nextOf (exec (.setVerbose true) State.reset)).map State.verbose = some true
      ∧ (nextOf (exec (.requestStop false) State.reset)).map (fun t => (t.run, t.phase)) = some (false, .s0)
      ∧ (nextOf (exec (.blockUntilStopped false) (atPhase .s3))).map State.hostWaiting = some true
      ∧ (nextOf (exec (.blockUntilStopped false) (atPhase .faulted))).map State.hostWaiting = some false := by decide

/-- The environment's turns (R37, R22). -/
theorem test_environment_turns :
    (nextOf (step { State.reset with sched := [.arrive [1, 2]] })).map State.rxq = some [1, 2]
      ∧ (nextOf (step { State.reset with sched := [.transport allFail] })).map State.answers = some allFail
      ∧ (nextOf (step { State.reset with sched := [.elapse 7] })).map State.cycleT = some 7
      ∧ (nextOf (step { State.reset with sched := [.host] })).map State.phase = some .s0 := by decide

/-- Part 3, program P7 loaded as a stimulus: the turns and codes it stands for. -/
theorem test_stimulus_p7 :
    ((loadStimulus [.host 0b100, .exit] State.reset).sched, (loadStimulus [.host 0b100, .exit] State.reset).hostQ)
      = ([.host, .worker, .worker], [0b100]) := by decide

/-- Log entry 9: an `@Sn` command whose phase its cycle skips is dropped, and `exit` issues no stop. -/
theorem test_stimulus_choices :
    (loadStimulus [.hostAt 0b100 .s5, .cycle []] State.reset).hostQ = []
      ∧ (loadStimulus [.exit] State.reset).hostQ = [] := by decide

/-- Log entries 9 and 12: a waiting host's turn passes and its next code stays at the head of the queue. -/
theorem test_waiting_host_keeps_its_queue :
    (nextOf (step { State.reset with hostWaiting := true, sched := [.host], hostQ := [0b001, 0b100] })).map
        (fun t => (t.esc, t.hostWaiting, t.hostQ, t.sched)) = some (false, true, [0b001, 0b100], []) := by decide

/-! ## Witnesses: states and operands that meet an obligation's hypotheses, clause by clause -/

theorem witness_DecodeReadsBackEveryEncoding :
    Cfg.default.wf = true ∧ (Instr.poll true true 0x56).wf Cfg.default = true := by decide

theorem witness_EveryDecodedWordIsItsEncoding :
    decode Cfg.default .stateCode [0x05] = .instr (.stUnknown 0x05) ∧ Port.stateCode ≠ Port.out8 := by decide

theorem witness_OutboundFrameLaws : Cfg.default.wf = true ∧ State.reset.cfg = Cfg.default := by decide

theorem witness_ParseInboundReadsByPosition :
    State.reset.cfg.wf = true ∧ [2, 0x0B, 0x20, 4, 0x10].length < 6 ∧ 6 ≤ [2, 0x0B, 0x20, 4, 0x10, 0].length := by decide

theorem witness_ParseInboundIgnoresEveryOtherByte :
    let a : List Byte := [0, 0, 0, 4, 0x10, 0]
    let b : List Byte := [9, 9, 9, 4, 0x10, 0, 9]
    State.reset.cfg.wf = true ∧ 6 ≤ a.length ∧ 6 ≤ b.length
      ∧ a[State.reset.cfg.stateOff]? = b[State.reset.cfg.stateOff]?
      ∧ a[State.reset.cfg.eventOff]? = b[State.reset.cfg.eventOff]? ∧ a[5]? = b[5]? := by decide

theorem witness_PrimaryLabelIsByExactCode :
    State.reset.cfg.wf = true ∧ codeOf State.reset.cfg .escrowed = some 0x04
      ∧ (0x04 : Byte) ∈ State.reset.cfg.codes.all ∧ (0x05 : Byte) ∉ State.reset.cfg.codes.all := by decide

theorem witness_CompositeForgetsTheOtherBits :
    exec (.primaryLabel 0x05) State.reset
        = .next { State.reset with ret := .label .unknown "" (some 0x05) }
      ∧ exec (.primaryLabel 0x03) State.reset = .next { State.reset with ret := .label .unknown "" (some 0x03) }
      ∧ (0xFF : Byte) &&& 0x1F = 0x1F &&& 0x1F := ⟨rfl, rfl, by decide⟩

theorem witness_NineCodesReadAsTheirLabels : State.reset.cfg.wf = true := by decide

theorem witness_UnknownCodeReadsAsEmptyLabel : (0x00 : Byte) ∉ State.reset.cfg.codes.all := by decide

theorem witness_PollSendsItsFrame : State.reset.answers.txWriteFails = false := by decide

theorem witness_S3RunsThePollInTxbuf :
    decode Cfg.default .out8 (loadTx #v[0x02, 0x08, 0x10, 0x7F, 0x30, 0x00, 0x03, 0x57] State.reset.mem).txbuf.toList
      = .instr (.poll false true 0x57) := by decide

theorem witness_S3WritesTheWholeFrame : (atPhase .s3).answers.txWriteFails = false := by decide

theorem witness_S4DrainsWhatIsAvailable :
    ((atPhase .s4).answers.rxAvailFails = false ∧ (atPhase .s4).rxq = [])
      ∧ ∃ s : State, s.answers.rxAvailFails = false ∧ s.rxq ≠ [] ∧ s.answers.rxReadFails = false
        ∧ ∀ n, s.cfg.rxDepth = some n → s.rxq.length ≤ n :=
  ⟨by decide, { State.resetWith { Cfg.default with rxDepth := some 6 } with rxq := [1, 2, 3, 4, 5, 6] }, by decide,
    by decide, by decide, fun n h => by cases h; decide⟩

theorem witness_S5ParsesOrSkipsTheCycle :
    let short := withRx .s5 [2, 0x0B, 0x20, 4, 0x10]
    let long := withRx .s5 [2, 0x0B, 0x20, 4, 0x10, 0]
    short.cfg.wf = true ∧ (short.mem.rxbuf.take short.mem.rxlen).length < 6
      ∧ long.cfg.wf = true ∧ 6 ≤ (long.mem.rxbuf.take long.mem.rxlen).length := by decide

/-- Both clauses: nothing reported yet, another string, the same string. -/
theorem witness_S7ReportsOnlyChanges :
    (∀ l, ({ atPhase .s7 with last := none } : State).last = some l → False)
      ∧ render Cfg.default ⟨.idling, 0, false⟩ ≠ render Cfg.default Composite.empty
      ∧ (atPhase .s7).last = some Composite.empty
      ∧ render Cfg.default (atPhase .s7).status = render Cfg.default Composite.empty :=
  ⟨fun _ h => (nomatch h), by decide, by decide, by decide⟩

theorem witness_SameStatusIsReportedOnce :
    ∃ t, exec .s7ChangeDetect { atPhase .s7 with status := ⟨.idling, 0, false⟩ } = .next t ∧ t.out ≠ [] :=
  ⟨_, rfl, by decide⟩

theorem witness_S8TracesInVerboseMode :
    ({ atPhase .s8 with verbose := true } : State).verbose = true ∧ (atPhase .s8).verbose = false := by decide

/-- Both clauses, the first with a counter one below a finite maximum, the second with either half of the gate. -/
theorem witness_S9CountsGatedCredits :
    (∃ s : State, (7 : Fin 8).val = s.creditB.toNat / 8 % 8 ∧ (7 : Fin 8) ≠ 0 ∧ s.stateB.getLsbD 4 = true
        ∧ ∀ w, s.cfg.cntW = some w → s.cnt[(7 : Fin 8)] + 1 < 2 ^ w)
      ∧ ((0 : Fin 8).val = (credited 0x11 0x07).creditB.toNat / 8 % 8)
      ∧ ((7 : Fin 8).val = (credited 0x04 0x38).creditB.toNat / 8 % 8
        ∧ (credited 0x04 0x38).stateB.getLsbD 4 = false) :=
  ⟨⟨{ State.resetWith { Cfg.default with cntW := some 1 } with stateB := 0x14, creditB := 0x38 }, by decide, by decide,
    by decide, fun w h => by cases h; decide⟩, by decide, by decide⟩

theorem witness_ExitClosesTheTransport : (atPhase .exit).answers.closeFails = false := by decide

theorem witness_TransportFailureTakesTheFatalPath :
    (allFail.txWriteFails = true ∧ allFail.rxAvailFails = true ∧ allFail.closeFails = true)
      ∧ ∃ s : State, s.answers.rxAvailFails = false ∧ s.rxq ≠ []
        ∧ (∀ n, s.cfg.rxDepth = some n → s.rxq.length ≤ n) ∧ s.answers.rxReadFails = true :=
  ⟨by decide, { atPhase .s4 with rxq := [0], answers := Answers.failing .rxRead }, by decide, by decide,
    fun _ h => (nomatch h), by decide⟩

/-- The three stops, each at its boundary. -/
theorem witness_FormsThatStopByName :
    (∃ s : State, (1 : Fin 8).val = s.creditB.toNat / 8 % 8 ∧ s.stateB.getLsbD 4 = true ∧ s.cfg.cntW = some 1
        ∧ 2 ^ 1 ≤ s.cnt[(1 : Fin 8)] + 1)
      ∧ (∃ s : State, s.answers.rxAvailFails = false ∧ s.cfg.rxDepth = some 6 ∧ 6 < s.rxq.length)
      ∧ ([0, 0, 0, 0, 0] : List Byte).length < 6 :=
  ⟨⟨{ State.resetWith { Cfg.default with cntW := some 1 } with
      stateB := 0x10, creditB := 0x08, cnt := #v[0, 1, 0, 0, 0, 0, 0, 0] }, by decide⟩,
    ⟨{ State.resetWith { Cfg.default with rxDepth := some 6 } with rxq := [1, 2, 3, 4, 5, 6, 7] }, by decide⟩,
    by decide⟩

theorem witness_BlockUntilStoppedWaits :
    (atPhase .stopped).phase = .stopped ∧ (atPhase .faulted).phase = .faulted
      ∧ (atPhase .exit).phase ≠ .stopped ∧ (atPhase .exit).phase ≠ .faulted := by decide

theorem witness_OnlyTheWorkerLiftsTheWait :
    ∃ t, step { atPhase .exit with hostWaiting := true } = .next t ∧ t.hostWaiting = false := ⟨_, rfl, by decide⟩

theorem witness_HostTurnTouchesOnlyItsFlags :
    ∃ t, step { State.reset with sched := [.host], hostQ := [0b101] } = .next t ∧ t.run = false :=
  ⟨_, rfl, by decide⟩

/-- A state at which the host's SET_ESCROW_INTENT(1) is next, with one more of its turns scheduled, which issues
SET_VERBOSE(1); the SET_ESCROW_INTENT(0) and REQUEST_STOP behind it have no turn. -/
def intentAt (p : Phase) : State :=
  { atPhase p with sched := [.host, .worker, .host], hostQ := [0b001, 0b011, 0b000, 0b101] }

/-- The hypotheses of both clauses at each of the six phases. -/
theorem witness_HostIntentReachesTheNextFrame :
    ∀ p ∈ [Phase.s7, .s8, .s9, .s10, .s0, .s1],
      (intentAt p).cfg.wf = true ∧ (intentAt p).phase ∈ [Phase.s7, .s8, .s9, .s10, .s0, .s1]
        ∧ (intentAt p).hostWaiting = false ∧ (intentAt p).sched = .host :: [.worker, .host]
        ∧ (intentAt p).hostQ = (if true then 0b001 else 0b000) :: [0b011, 0b000, 0b101]
        ∧ (∀ c ∈ ([0b011, 0b000, 0b101] : List (BitVec 3)).take (([.worker, .host] : List Turn).count .host),
            (c ≠ 0b000 ∧ c ≠ 0b001) ∧ c ≠ 0b100 ∧ c ≠ 0b101)
        ∧ (intentAt p).run = true ∧ (intentAt p).cfg.cntW = none := by decide

/-- Of the schedule: no turn offers an operation. -/
theorem witness_HostIntentReachesTheNextFrame_turns : ∀ p bs, Turn.operate p bs ∉ ([.worker, .host] : List Turn) := by
  simp

/-- Of the run: a command that lands at S1 is followed by the first visit to S2. -/
theorem witness_HostIntentReachesTheNextFrame_run :
    ∃ t, steps 2 (intentAt .s1) = .next t ∧ t.phase = .s2
      ∧ ∀ m u, m < 2 → steps m (intentAt .s1) = .next u → u.phase ≠ .s2 := by
  refine ⟨_, rfl, by decide, fun m u hm h => ?_⟩
  obtain rfl | rfl : m = 0 ∨ m = 1 := by omega
  all_goals
    cases h
    decide

/-- One state per clause: nobody scheduled, the worker, the host, an arrival, an operation. -/
theorem witness_StepRunsTheDecodedInstruction :
    (State.reset.sched = [] ∧ decode Cfg.default .phase [Phase.s0.code] = .instr .s0TestRun)
      ∧ decode Cfg.default .phase [Phase.faulted.code] = .instr .faulted
      ∧ decode Cfg.default .hostCmd [(0b111 : BitVec 3).setWidth 8] = .instr (.blockUntilStopped true)
      ∧ decode Cfg.default .in6 [1, 2, 3, 4, 5, 6] = .instr (.status [1, 2, 3, 4, 5, 6])
      ∧ (Port.evIgnored.isCombinational = true
        ∧ decode Cfg.default .evIgnored [0xE0] = .instr (.evIgnored 0xE0)) := by decide

theorem witness_EnvironmentTurnsLeaveTheBlockAlone :
    ({ State.reset with sched := [.arrive []] } : State).sched = .arrive [] :: []
      ∧ ({ State.reset with sched := [.transport allFail] } : State).sched = .transport allFail :: []
      ∧ ({ State.reset with sched := [.elapse 0] } : State).sched = .elapse 0 :: [] := by decide

theorem witness_EveryTurnOfTheAgentsCompletes :
    State.reset.cfg.cntW = none ∧ State.reset.cfg.rxDepth = none
      ∧ ∀ p bs ts, State.reset.sched ≠ .operate p bs :: ts :=
  ⟨rfl, rfl, fun _ _ _ h => nomatch h⟩

theorem witness_OperationTurnsArePure :
    ∃ t, step { State.reset with sched := [.operate .acceptClass [0x10]] } = .next t ∧ t.ret = .bit true :=
  ⟨_, rfl, by decide⟩

theorem witness_FirstCycleSendsTheFirstFrame : (State.resetWith Cfg.default).cfg = Cfg.default := by decide

theorem witness_ResetIsConsistentAndFramed : Cfg.default.wf = true := by decide

/-- A state in the middle of a session: one frame sent, the second built and its handshake bit already flipped. -/
def midSession : State :=
  { atPhase .s3 with
    hs := false
    txs := [0x02, 0x08, 0x10, 0x7F, 0x10, 0x00, 0x03, 0x77]
    mem := loadTx #v[0x02, 0x08, 0x11, 0x7F, 0x30, 0x00, 0x03, 0x56] State.reset.mem }

theorem midSession_consistent : midSession.Consistent :=
  ⟨by decide, by decide, by decide, by decide, by decide, by decide, by decide⟩

theorem midSession_framed : midSession.Framed where
  whole _ := by decide
  hs _ := by decide
  built _ := ⟨true, by decide⟩
  sent n := by
    refine ⟨false, ?_⟩
    cases n with
    | zero => decide
    | succ n =>
      have h : midSession.txs.drop (8 * (n + 1)) = [] := List.drop_eq_nil_of_le (by simp [midSession])
      simp [sentFrame, h]
  complete n hn := by
    have h : n = 0 := by simp [midSession] at hn; omega
    subst h
    exact ⟨false, by decide⟩

theorem witness_EveryStepKeepsConsistent : midSession.Consistent ∧ ∃ t, step midSession = .next t :=
  ⟨midSession_consistent, _, rfl⟩

theorem witness_EveryStepKeepsFramed : midSession.Framed ∧ ∃ t, step midSession = .next t :=
  ⟨midSession_framed, _, rfl⟩

/-- Four worker steps from reset: a run whose transmit stream is not empty. -/
theorem witness_HandshakeAlternatesInEveryRun :
    Cfg.default.wf = true
      ∧ ∃ t, Reaches { State.resetWith Cfg.default with
          sched := [], hostQ := [], answers := Answers.succeed, rxq := [] } t
        ∧ t.txs[8 * 0 + 2]? = some 0x10 :=
  ⟨by decide, _, .tail (.tail (.tail (.tail (.refl _) rfl) rfl) rfl) rfl, by decide⟩

/-- With a whole reply waiting, with a short buffer, and with nothing. -/
theorem witness_PhasesComputeTheCycleFunction :
    ∀ rx ∈ [idlingReply, [0x02], []],
      let s : State := { State.reset with rxq := rx }
      s.cfg.wf = true ∧ s.cfg.cntW = none ∧ s.cfg.rxDepth = none ∧ s.phase = .s0 ∧ s.run = true ∧ s.sched = []
        ∧ s.answers = Answers.succeed := by decide

theorem witness_EscrowBitFeedsTheNextFrame :
    let s : State := { atPhase .s6 with stateB := 0x04 }
    s.cfg.wf = true ∧ s.cfg.cntW = none ∧ s.phase = .s6 ∧ s.run = true ∧ s.sched = [] := by decide

theorem witness_ReliableTransportNeverFaults :
    State.reset.safe = true ∧ State.reset.transportReliable = true ∧ ∃ t, step State.reset = .next t :=
  ⟨by decide, by decide, _, rfl⟩

theorem witness_EndedSessionsStayEnded :
    (atPhase .stopped).ended = true ∧ (atPhase .faulted).ended = true ∧ ∃ t, step (atPhase .faulted) = .next t :=
  ⟨by decide, by decide, _, rfl⟩

theorem witness_TransportIsClosedOnce :
    Cfg.default.wf = true
      ∧ (midSession.Consistent ∧ midSession.calls.count .close = (if midSession.isOpen = true then 0 else 1))
      ∧ ∃ t, step midSession = .next t :=
  ⟨by decide, ⟨midSession_consistent, by decide⟩, _, rfl⟩

theorem witness_HistoryOnlyGrows : ∃ t, step midSession = .next t ∧ t.txs.length = 16 := ⟨_, rfl, by decide⟩

theorem witness_StopIsSeenOnlyAtS0 : midSession.sched = [] ∧ midSession.phase ≠ .s0 := by decide

/-- Two states that differ in nothing but time. -/
theorem witness_NothingDependsOnTime :
    ({ State.reset with cycleT := 5 } : State) ≠ State.reset
      ∧ ({ ({ State.reset with cycleT := 5 } : State) with cycleT := 0 } : State) = { State.reset with cycleT := 0 } :=
  ⟨by decide, by decide⟩

/-- Two states that differ in nothing but `VERBOSE`. -/
theorem witness_VerboseChangesOnlyTheTrace :
    ({ State.reset with verbose := true } : State) ≠ State.reset
      ∧ ({ ({ State.reset with verbose := true } : State) with verbose := false } : State)
        = { State.reset with verbose := false } := ⟨by decide, by decide⟩

end Sys2Proof.Tests
end

/-! The frame codec (40_frame_codec.md R80, R82, R84): what each codec function computes, what its instruction does to
the state, and the obligations about the three. -/

namespace Sys2Proof

/-! ## Well-formed configurations -/

/-- The well-formedness test, clause by clause (00_scope.md R6). -/
theorem Cfg.wf_iff (c : Cfg) :
    c.wf = true ↔
      c.cmdPattern &&& hsMask = 0 ∧ c.escBase &&& escMask = 0
        ∧ c.stateOff ≠ c.eventOff ∧ c.stateOff ≠ creditOff ∧ c.eventOff ≠ creditOff
        ∧ c.stateOff < minRxLen ∧ c.eventOff < minRxLen
        ∧ c.codes.all.Nodup ∧ c.codes.escrowed = 0x04 ∧ ∀ d ∈ c.rxDepth, minRxLen ≤ d := by
  unfold Cfg.wf
  cases c.rxDepth <;> simp [and_assoc]

/-- The two configurable inbound offsets of a well-formed `Cfg` lie inside the shortest parsed buffer. -/
theorem Cfg.offsets_lt_of_wf {c : Cfg} (h : c.wf = true) : c.stateOff < minRxLen ∧ c.eventOff < minRxLen := by
  obtain ⟨-, -, -, -, -, hst, hev, -⟩ := c.wf_iff.mp h
  exact ⟨hst, hev⟩

/-! ## The codec functions -/

/-- The fold of R80 written out: offset 0 and everything after offset 5 are left out. -/
theorem checksumOf_cons (b0 b1 b2 b3 b4 b5 : Byte) (rest : List Byte) :
    checksumOf (b0 :: b1 :: b2 :: b3 :: b4 :: b5 :: rest) = b1 ^^^ b2 ^^^ b3 ^^^ b4 ^^^ b5 := by
  simp [checksumOf, ckLo, ckHi]

/-- The checksum byte of an outbound frame (R52), from its five covered bytes. -/
theorem frameChecksum_eq (cfg : Cfg) (h e : Bool) :
    frameChecksum cfg h e =
      cfg.len ^^^ (cfg.cmdPattern ||| bitAt h hsMask) ^^^ cfg.cmdByte ^^^ (cfg.escBase ||| bitAt e escMask)
        ^^^ cfg.rsvd :=
  checksumOf_cons ..

/-- The outbound frame (R82), byte by byte. -/
theorem buildOutboundFrame_eq (cfg : Cfg) (h e : Bool) :
    buildOutboundFrame cfg h e =
      #v[cfg.stx, cfg.len, cfg.cmdPattern ||| bitAt h hsMask, cfg.cmdByte, cfg.escBase ||| bitAt e escMask, cfg.rsvd,
        cfg.etx, cfg.len ^^^ (cfg.cmdPattern ||| bitAt h hsMask) ^^^ cfg.cmdByte
          ^^^ (cfg.escBase ||| bitAt e escMask) ^^^ cfg.rsvd] := by
  rw [buildOutboundFrame, frameChecksum_eq, outboundFrame]

/-- FrameTooShort (R84), whatever the `Cfg`. -/
theorem parseInboundBytes_of_lt {cfg : Cfg} {b : List Byte} (h : b.length < minRxLen) :
    parseInboundBytes cfg b = .tooShort b.length :=
  if_pos h

/-- A buffer that is long enough is parsed to the bytes that stand at the three offsets (R84). -/
theorem parseInboundBytes_of_getElem? {cfg : Cfg} {b : List Byte} {st ev cr : Byte} (h : minRxLen ≤ b.length)
    (hst : b[cfg.stateOff]? = some st) (hev : b[cfg.eventOff]? = some ev) (hcr : b[creditOff]? = some cr) :
    parseInboundBytes cfg b = .frame ⟨st, ev, cr⟩ := by
  rw [parseInboundBytes, if_neg (Nat.not_lt.mpr h), hst, hev, hcr]

end Sys2Proof

namespace Sys2Proof.Machine

/-! ## The codec instructions: each leaves its result and changes nothing else -/

/-- CHECKSUM of a sequence that reaches offset 5 (R80). -/
theorem exec_checksum {f : List Byte} (h : ckHi < f.length) (s : State) :
    exec (.checksum f) s = .next { s with ret := .byte (checksumOf f) } :=
  if_neg (Nat.not_le.mpr h)

/-- BUILD_OUTBOUND (R82). -/
theorem exec_buildOutbound (h e : Bool) (s : State) :
    exec (.buildOutbound h e) s = .next { s with ret := .frame (buildOutboundFrame s.cfg h e) } := rfl

/-- PARSE_INBOUND (R84). -/
theorem exec_parseInbound (b : List Byte) (s : State) :
    exec (.parseInbound b) s = .next { s with ret := .parsed (parseInboundBytes s.cfg b) } := rfl

/-! ## The obligations -/

/-- Settles O4: a sequence of at least six bytes is not refused, and the fold reads offsets 1 to 5 of it. -/
theorem checksumFoldsOffsetsOneToFive : Obligations.ChecksumFoldsOffsetsOneToFive := by
  intro s b0 b1 b2 b3 b4 b5 rest
  have hlen : ckHi < (b0 :: b1 :: b2 :: b3 :: b4 :: b5 :: rest).length := by simp [ckHi]
  rw [exec_checksum hlen, checksumOf_cons]

/-- Settles O5: the result is the frame of R82 with its own checksum, whose bytes `buildOutboundFrame_eq` lists. -/
theorem buildOutboundGivesTheEightBytes : Obligations.BuildOutboundGivesTheEightBytes := by
  intro s h e
  rw [exec_buildOutbound, buildOutboundFrame_eq]
  rfl

/-- Settles O7, by the length of the buffer; from six bytes on, a well-formed `Cfg` has its offsets inside it. -/
theorem parseInboundReadsByPosition : Obligations.ParseInboundReadsByPosition := by
  intro s b hwf
  constructor
  · intro hshort
    rw [exec_parseInbound, parseInboundBytes_of_lt hshort]
  · intro hlong
    obtain ⟨hst, hev⟩ := Cfg.offsets_lt_of_wf hwf
    have getElem_of_lt {i : Nat} (hi : i < minRxLen) : ∃ x, b[i]? = some x :=
      ⟨_, List.getElem?_eq_getElem (Nat.lt_of_lt_of_le hi hlong)⟩
    obtain ⟨st, hst⟩ := getElem_of_lt hst
    obtain ⟨ev, hev⟩ := getElem_of_lt hev
    obtain ⟨cr, hcr⟩ := getElem_of_lt (i := creditOff) (by decide)
    refine ⟨st, ev, cr, hst, hev, hcr, ?_⟩
    rw [exec_parseInbound, parseInboundBytes_of_getElem? hlong hst hev hcr]

end Sys2Proof.Machine

/-! The Status Interpreter (41_status_interpreter.md R90 to R94): the lookup of a primary-state byte, the tested bits of
the event byte, what each operation does to the state, and the obligations about them. -/

namespace Sys2Proof

/-! ## The lookup in `STATE_CODE` (30_encoding.md R57) -/

/-- The labels in the order of the spec's numbering. -/
def Label.all : List Label :=
  [.unknown, .idling, .accepting, .escrowed, .stacking, .stacked, .returning, .returned, .stackedIdling,
    .returnedIdling]

/-- A label stands in `Label.all` at its own id. -/
theorem Label.all_getElem?_id (l : Label) : Label.all[l.id]? = some l := by
  cases l <;> rfl

/-- Labels are told apart by the spec's numbering. -/
theorem Label.id_injective : Function.Injective Label.id := fun l l' h =>
  Option.some.inj (by rw [← l.all_getElem?_id, ← l'.all_getElem?_id, h])

/-- The key of a label stands in the list of keys at the label's id, the unknown label having none: `STATE_CODE` is one
list, so that facts about its keys are facts about list positions. -/
theorem codeOf_eq_some_iff (cfg : Cfg) (l : Label) (b : Byte) :
    codeOf cfg l = some b ↔ ∃ i, l.id = i + 1 ∧ cfg.codes.all[i]? = some b := by
  cases l <;> simp [codeOf, Label.id, StateCodes.all]

/-- A key of a label is one of the nine keys. -/
theorem mem_codes_of_codeOf {cfg : Cfg} {l : Label} {b : Byte} (h : codeOf cfg l = some b) : b ∈ cfg.codes.all := by
  obtain ⟨i, -, hi⟩ := (codeOf_eq_some_iff cfg l b).mp h
  exact List.mem_of_getElem? hi

/-- Distinct keys belong to distinct labels (00_scope.md R6). -/
theorem codeOf_inj {cfg : Cfg} (hnd : cfg.codes.all.Nodup) {l l' : Label} {b : Byte} (h : codeOf cfg l = some b)
    (h' : codeOf cfg l' = some b) : l = l' := by
  obtain ⟨i, hl, hi⟩ := (codeOf_eq_some_iff cfg l b).mp h
  obtain ⟨j, hl', hj⟩ := (codeOf_eq_some_iff cfg l' b).mp h'
  have hij : i = j :=
    (List.getElem?_inj (List.getElem?_eq_some_iff.mp hi).1 hnd).mp (hi.trans hj.symm)
  exact Label.id_injective (by rw [hl, hl', hij])

/-- All that a lookup can answer: the label whose key the byte is, or unknown for a byte that is no key. -/
theorem labelOf_cases (cfg : Cfg) (b : Byte) :
    codeOf cfg (labelOf cfg b) = some b ∨ labelOf cfg b = .unknown ∧ b ∉ cfg.codes.all := by
  unfold labelOf
  split_ifs
  case neg => exact .inr ⟨rfl, by simp [StateCodes.all, *]⟩
  all_goals exact .inl (congrArg some (Eq.symm ‹_›))

/-- A byte is unknown exactly when it is no key (R90). -/
theorem labelOf_eq_unknown_iff (cfg : Cfg) (b : Byte) : labelOf cfg b = .unknown ↔ b ∉ cfg.codes.all := by
  obtain hcode | ⟨hun, hmem⟩ := labelOf_cases cfg b
  · have hknown : labelOf cfg b ≠ .unknown := fun h => by simp [h, codeOf] at hcode
    exact iff_of_false hknown (not_not_intro (mem_codes_of_codeOf hcode))
  · exact iff_of_true hun hmem

/-- A key is looked up to the label it belongs to. -/
theorem codeOf_labelOf {cfg : Cfg} {b : Byte} (h : b ∈ cfg.codes.all) : codeOf cfg (labelOf cfg b) = some b :=
  (labelOf_cases cfg b).resolve_right fun ⟨_, hmem⟩ => hmem h

/-- With distinct keys, the lookup inverts `codeOf`. -/
theorem labelOf_of_codeOf {cfg : Cfg} (hnd : cfg.codes.all.Nodup) {l : Label} {b : Byte} (h : codeOf cfg l = some b) :
    labelOf cfg b = l :=
  codeOf_inj hnd (codeOf_labelOf (mem_codes_of_codeOf h)) h

/-- The diagnostic of R90 carries the byte exactly when it is no key. -/
theorem unknownStateByte_eq (cfg : Cfg) (b : Byte) :
    unknownStateByte cfg b = if b ∈ cfg.codes.all then none else some b := by
  simp only [unknownStateByte, labelOf_eq_unknown_iff, ite_not]

/-! ## Tested bits (30_encoding.md R56, R59) -/

/-- A test with a one-bit mask reads that bit. -/
theorem hasBit_twoPow (b : Byte) {i : Nat} (hi : i < 8) : hasBit b (BitVec.twoPow 8 i) = b.getLsbD i := by
  have hne : BitVec.twoPow 8 i ≠ 0#8 := fun h => by
    have hbit := congrArg (BitVec.getLsbD · i) h
    simp [hi] at hbit
  rw [hasBit, BitVec.and_twoPow]
  cases b.getLsbD i <;> simp [hne]

/-- The event flags are the low four bits (R92). -/
theorem eventFlags_eq_extractLsb' (e : Byte) : eventFlags e = e.extractLsb' 0 4 :=
  BitVec.setWidth_eq_extractLsb' (by decide)

/-- An event flag is the bit of the event byte at its position. -/
theorem getLsbD_eventFlags (e : Byte) {i : Nat} (hi : i < 4) : (eventFlags e).getLsbD i = e.getLsbD i := by
  simp [eventFlags, hi]

/-- The string of the event flags, read off the event byte (R60, R92). -/
theorem eventText_eventFlags (cfg : Cfg) (e : Byte) :
    eventText cfg (eventFlags e) =
      (if e.getLsbD 0 then cfg.evLabels.cheated else "") ++ (if e.getLsbD 1 then cfg.evLabels.rejected else "")
        ++ (if e.getLsbD 2 then cfg.evLabels.jammed else "") ++ (if e.getLsbD 3 then cfg.evLabels.full else "") := by
  simp only [eventText, getLsbD_eventFlags e, Nat.reduceLT]

/-- The cassette is missing exactly when bit 4 of the event byte is clear (R93). -/
theorem cassetteMissing_eq (e : Byte) : cassetteMissing e = !e.getLsbD 4 :=
  congrArg (!·) (hasBit_twoPow e (i := 4) (by decide))

/-- The marker of R93, read off the event byte. -/
theorem markerText_cassetteMissing (cfg : Cfg) (e : Byte) :
    markerText cfg (cassetteMissing e) = if e.getLsbD 4 then "" else cfg.cassetteMarker := by
  rw [cassetteMissing_eq, markerText]
  cases e.getLsbD 4 <;> rfl

end Sys2Proof

namespace Sys2Proof.Machine

/-! ## The interpreter's operations: each leaves its result and changes nothing else -/

/-- PRIMARY_LABEL (R90). -/
theorem exec_primaryLabel (b : Byte) (s : State) :
    exec (.primaryLabel b) s = .next { s with
      ret := .label (labelOf s.cfg b) (labelText s.cfg (labelOf s.cfg b)) (unknownStateByte s.cfg b) } := rfl

/-- ESCROW_DETECT (R91). -/
theorem exec_escrowDetect (b : Byte) (s : State) :
    exec (.escrowDetect b) s = .next { s with ret := .bit (escrowBit b) } := rfl

/-- EVENT_LABELS (R92). -/
theorem exec_eventLabels (e : Byte) (s : State) :
    exec (.eventLabels e) s = .next { s with ret := .events (eventFlags e) (eventText s.cfg (eventFlags e)) } := rfl

/-- CASSETTE_MARK (R93). -/
theorem exec_cassetteMark (e : Byte) (s : State) :
    exec (.cassetteMark e) s = .next { s with
      ret := .mark (cassetteMissing e) (markerText s.cfg (cassetteMissing e)) } := rfl

/-- DESCRIBE (R94), with its composite and its rendered string written as the pieces they are put together from. -/
theorem exec_describe (b e : Byte) (s : State) :
    exec (.describe b e) s = .next { s with
      ret := .described ⟨labelOf s.cfg b, eventFlags e, cassetteMissing e⟩
        (labelText s.cfg (labelOf s.cfg b) ++ eventText s.cfg (eventFlags e) ++ markerText s.cfg (cassetteMissing e))
        (escrowBit b) (unknownStateByte s.cfg b) } := rfl

/-! ## The obligations -/

/-- Settles O9: the label is the lookup's; a well-formed `Cfg` has distinct keys, so no other label has the byte. -/
theorem primaryLabelIsByExactCode : Obligations.PrimaryLabelIsByExactCode := by
  intro s b hwf
  obtain ⟨-, -, -, -, -, -, -, hnd, -⟩ := s.cfg.wf_iff.mp hwf
  refine ⟨labelOf s.cfg b, ?_, fun l' h => labelOf_of_codeOf hnd h, codeOf_labelOf, fun hmem => ?_⟩
  · rw [exec_primaryLabel, unknownStateByte_eq]
  · have hun := (labelOf_eq_unknown_iff s.cfg b).mpr hmem
    exact ⟨hun, congrArg (labelText s.cfg) hun⟩

/-- Settles O11: both operations' results, read off the event byte's bits. -/
theorem eventLabelsAndCassetteMarker : Obligations.EventLabelsAndCassetteMarker := by
  intro s e
  constructor
  · rw [exec_eventLabels, eventText_eventFlags, eventFlags_eq_extractLsb']
  · rw [exec_cassetteMark, markerText_cassetteMissing, cassetteMissing_eq]

/-- Settles O12: the pieces are what the four operations leave, and `exec_describe` puts them together. -/
theorem describeIsMadeOfItsPieces : Obligations.DescribeIsMadeOfItsPieces := by
  intro s b e
  exact ⟨_, _, _, _, _, _, _, _, exec_primaryLabel b s, exec_escrowDetect b s, exec_eventLabels e s,
    exec_cassetteMark e s, exec_describe b e s⟩

end Sys2Proof.Machine

/-! The Acceptor Session's computing phases (42_acceptor_session.md R103, R106, R107, R108, R110): the bits and fields
they test, what each phase does to the state, and the obligations about them. -/

namespace Sys2Proof

/-! ## Tested bits and the credit field -/

/-- ESCROW_DETECT reads bit 2 (R91). -/
theorem escrowBit_eq (b : Byte) : escrowBit b = b.getLsbD 2 :=
  hasBit_twoPow b (i := 2) (by decide)

/-- ACCEPT_CLASS reads bit 4 (R97). -/
theorem acceptBit_eq (b : Byte) : acceptBit b = b.getLsbD 4 :=
  hasBit_twoPow b (i := 4) (by decide)

/-- The credit field is bits 5 to 3 as a number (R95): shifting the mask down with the byte leaves the low-three-bits
mask. -/
theorem creditDenomOf_val (c : Byte) : (creditDenomOf c).val = c.toNat / 8 % 8 := by
  have hfield : ((c &&& creditMask) >>> creditShift).toNat = c.toNat / 8 % 8 := calc
    ((c &&& creditMask) >>> creditShift).toNat
    _ = c.toNat >>> 3 &&& (2 ^ 3 - 1) := by
        simp [creditMask, creditShift, Nat.shiftRight_and_distrib]
    _ = c.toNat / 8 % 8 := by
        rw [Nat.and_two_pow_sub_one_eq_mod, Nat.shiftRight_eq_div_pow]
  simp [creditDenomOf, hfield]

/-! ## The test of S7 -/

/-- A change is seen unless a composite with the same string was reported last (R108). -/
theorem statusChanged_iff (cfg : Cfg) (last : Option Composite) (st : Composite) :
    statusChanged cfg last st = true ↔ ∀ l, last = some l → render cfg st ≠ render cfg l := by
  cases last <;> simp [statusChanged]

end Sys2Proof

namespace Sys2Proof.Machine

/-- A counter has room exactly when one more still fits a finite `CNT_W` (93_implementation_defined.md U1). -/
theorem atMaximum_eq_false_iff (cfg : Cfg) (v : Nat) :
    atMaximum cfg v = false ↔ ∀ w, cfg.cntW = some w → v + 1 < 2 ^ w := by
  unfold atMaximum
  cases cfg.cntW <;> simp

/-! ## The phases -/

/-- S2 (R103). -/
theorem exec_s2 (s : State) : exec .s2FlipHs s = .next { s with hs := !s.hs, phase := .s3 } := rfl

/-- S5 of a buffer that does not parse (R106, R141). -/
theorem exec_s5_of_tooShort {s : State} {n : Nat} (h : parseInboundBytes s.cfg (received s.mem) = .tooShort n) :
    exec .s5Parse s = .next { s with out := s.out ++ [.diagnostic (.frameTooShort n)], phase := .s10 } := by
  simp [exec, execS5Parse, h, emit, goto]

/-- S5 of a buffer that parses (R106). -/
theorem exec_s5_of_frame {s : State} {f : InboundFrame} (h : parseInboundBytes s.cfg (received s.mem) = .frame f) :
    exec .s5Parse s =
      .next { s with stateB := f.state, eventB := f.event, creditB := f.credit, phase := .s6 } := by
  simp [exec, execS5Parse, h, goto]

/-- S6 (R107, R142). -/
theorem exec_s6 (s : State) :
    exec .s6Interpret s = .next { s with
      out := s.out ++ (if s.stateB ∈ s.cfg.codes.all then [] else [.diagnostic (.unknownPrimaryState s.stateB)])
      status := describeStatus s.cfg s.stateB s.eventB
      escDec := escrowBit s.stateB
      esc := escrowBit s.stateB
      phase := .s7 } := by
  by_cases h : s.stateB ∈ s.cfg.codes.all <;>
    simp [exec, execS6Interpret, emitUnknown_eq, unknownStateByte_eq, h, goto]

/-- S7 (R108). -/
theorem exec_s7 (s : State) :
    exec .s7ChangeDetect s =
      if statusChanged s.cfg s.last s.status then
        .next { s with out := s.out ++ [.statusChange s.status], last := some s.status, phase := .s8 }
      else .next { s with phase := .s8 } := rfl

/-- Everything S9 can do (R110): count and report a gated credit, be stuck at a full finite counter, or move on. -/
theorem exec_s9 (s : State) :
    exec .s9Credit s =
      if creditDenomOf s.creditB ≠ 0 ∧ acceptBit s.stateB = true then
        if atMaximum s.cfg s.cnt[creditDenomOf s.creditB] then .fault (.counterAtMaximum (creditDenomOf s.creditB))
        else .next { s with
          cnt := s.cnt.set (creditDenomOf s.creditB) (s.cnt[creditDenomOf s.creditB] + 1)
          out := s.out ++ [.billCredited (creditDenomOf s.creditB)
            (s.cnt.set (creditDenomOf s.creditB) (s.cnt[creditDenomOf s.creditB] + 1))]
          phase := .s10 }
      else .next { s with phase := .s10 } := rfl

/-! ## The obligations -/

/-- Settles O23: the whole effect of S2 is `exec_s2`. -/
theorem s2ComplementsHandshake : Obligations.S2ComplementsHandshake := exec_s2

/-- Settles O26, by the length of the buffer; a long one has the three bytes that PARSE_INBOUND reads. -/
theorem s5ParsesOrSkipsTheCycle : Obligations.S5ParsesOrSkipsTheCycle := by
  rintro s b hwf rfl
  constructor
  · intro hshort
    exact exec_s5_of_tooShort (parseInboundBytes_of_lt hshort)
  · intro hlong
    obtain ⟨st, ev, cr, hst, hev, hcr, -⟩ := (parseInboundReadsByPosition s _ hwf).2 hlong
    exact ⟨st, ev, cr, hst, hev, hcr, exec_s5_of_frame (parseInboundBytes_of_getElem? hlong hst hev hcr)⟩

/-- Settles O27: S6 stores the composite and the escrow bit that DESCRIBE leaves for the same two latches. -/
theorem s6StoresWhatDescribeSays : Obligations.S6StoresWhatDescribeSays := by
  intro s
  refine ⟨_, _, _, _, exec_describe s.stateB s.eventB s, ?_, escrowBit_eq s.stateB⟩
  rw [exec_s6, ← escrowBit_eq]
  rfl

/-- Settles O28: the two clauses are the two outcomes of S7's test. -/
theorem s7ReportsOnlyChanges : Obligations.S7ReportsOnlyChanges := by
  intro s
  rw [exec_s7]
  constructor
  · intro hnew
    exact if_pos ((statusChanged_iff s.cfg s.last s.status).mpr hnew)
  · intro l hlast hsame
    exact if_neg fun hchanged => (statusChanged_iff s.cfg s.last s.status).mp hchanged l hlast hsame

/-- Settles O31: the denomination is the one S9 extracts; an open gate with room counts, a closed gate moves on. -/
theorem s9CountsGatedCredits : Obligations.S9CountsGatedCredits := by
  intro s d hd
  obtain rfl : d = creditDenomOf s.creditB := Fin.ext (hd.trans (creditDenomOf_val s.creditB).symm)
  rw [exec_s9, acceptBit_eq]
  constructor
  · intro hne haccept hroom
    rw [if_pos ⟨hne, haccept⟩, (atMaximum_eq_false_iff s.cfg _).mpr hroom]
    rfl
  · rintro (hzero | hclear)
    · exact if_neg fun ⟨hne, _⟩ => hne hzero
    · exact if_neg fun ⟨_, haccept⟩ => Bool.false_ne_true (hclear.symm.trans haccept)

end Sys2Proof.Machine

/-! The host interface (43_host_interface.md R121 to R123 and R125): what each of the three host stores does to the state,
and the obligation about them. -/

namespace Sys2Proof.Machine

/-! ## One reasoning rule per host store -/

/-- SET_ESCROW_INTENT is one store to `ESC` (R121), never refused (R125). -/
@[simp] theorem exec_setEscrowIntent (a : Bool) (s : State) :
    exec (.setEscrowIntent a) s = .next { s with esc := a } := rfl

/-- SET_VERBOSE is one store to `VERBOSE` (R122), never refused (R125). -/
@[simp] theorem exec_setVerbose (a : Bool) (s : State) :
    exec (.setVerbose a) s = .next { s with verbose := a } := rfl

/-- REQUEST_STOP is one store to `RUN` (R123), never refused (R125); its argument bit is ignored (R67). -/
@[simp] theorem exec_requestStop (x : Bool) (s : State) :
    exec (.requestStop x) s = .next { s with run := false } := rfl

/-! ## The obligation -/

/-- Settles O36, one conjunct for each store's rule. -/
theorem hostStoresWriteOneFlag : Obligations.HostStoresWriteOneFlag := fun s a x =>
  ⟨exec_setEscrowIntent a s, exec_setVerbose a s, exec_requestStop x s⟩

end Sys2Proof.Machine

/-! The decoder against the encoder (30_encoding.md R50 to R67): a fixed pattern and a one-bit field of one byte, the
outbound frame, the rows of the code table, the `PHASE` and host command codes, and the obligations about them. -/

namespace Sys2Proof

/-! ## A one-bit field beside a fixed pattern (30_encoding.md R51) -/

/-- The handshake mask is bit 0. -/
theorem hsMask_eq_twoPow : hsMask = BitVec.twoPow 8 0 := by decide

/-- The escrow-control mask is bit 5. -/
theorem escMask_eq_twoPow : escMask = BitVec.twoPow 8 5 := by decide

/-- Clearing the field's mask gives the pattern back. -/
theorem or_bitAt_and_not {x m : Byte} (hx : x &&& m = 0) (b : Bool) : (x ||| bitAt b m) &&& ~~~m = x := by
  have hkeep : x &&& ~~~m = x := calc
    x &&& ~~~m = x &&& m ||| x &&& ~~~m := by simp [hx]
    _ = x := by rw [← BitVec.and_or_distrib_left, BitVec.or_not_self, BitVec.and_allOnes]
  cases b <;> simp [bitAt, BitVec.and_or_distrib_right, hkeep]

/-- Testing the field's mask gives the bit back. -/
theorem hasBit_or_bitAt {x m : Byte} (hx : x &&& m = 0) (hm : m ≠ 0) (b : Bool) : hasBit (x ||| bitAt b m) m = b := by
  have hm' : m ≠ 0#8 := hm
  cases b <;> simp [hasBit, bitAt, BitVec.and_or_distrib_right, hx, hm']

/-- Placing the bit that was read gives that bit of the byte. -/
theorem bitAt_hasBit (b : Byte) {i : Nat} (hi : i < 8) :
    bitAt (hasBit b (BitVec.twoPow 8 i)) (BitVec.twoPow 8 i) = b &&& BitVec.twoPow 8 i := by
  rw [hasBit_twoPow b hi, BitVec.and_twoPow]
  rfl

/-- A byte is its pattern and its field. -/
theorem and_not_or_bitAt_hasBit (b : Byte) {i : Nat} (hi : i < 8) :
    b &&& ~~~BitVec.twoPow 8 i ||| bitAt (hasBit b (BitVec.twoPow 8 i)) (BitVec.twoPow 8 i) = b := by
  rw [bitAt_hasBit b hi, ← BitVec.and_or_distrib_left, BitVec.not_or_self, BitVec.and_allOnes]

/-! ## The outbound frame -/

/-- The frame's fields are read back from it (R50, R51). -/
theorem readOutbound_outboundFrame {cfg : Cfg} (hwf : cfg.wf = true) (h e : Bool) (c : Byte) :
    readOutbound cfg (outboundFrame cfg h e c).toList = .inl ⟨h, e, c⟩ := by
  obtain ⟨hcmd, hesc, -⟩ := cfg.wf_iff.mp hwf
  simp [outboundFrame, readOutbound, or_bitAt_and_not hcmd, or_bitAt_and_not hesc, hasBit_or_bitAt hcmd (by decide),
    hasBit_or_bitAt hesc (by decide)]

/-- What reads as an outbound frame is the frame of the fields read, whatever the `Cfg`. -/
theorem eq_outboundFrame_of_readOutbound {cfg : Cfg} {bs : List Byte} {f : OutboundFields}
    (h : readOutbound cfg bs = .inl f) : bs = (outboundFrame cfg f.h f.e f.c).toList := by
  unfold readOutbound at h
  split at h
  case h_2 => cases h
  case h_1 b0 b1 b2 b3 b4 b5 b6 b7 =>
    split_ifs at h with h0 h1 h2 h3 h4 h5 h6
    cases h
    simp only [ne_eq, Decidable.not_not] at h0 h1 h2 h3 h4 h5 h6
    have hb2 : cfg.cmdPattern ||| bitAt (hasBit b2 hsMask) hsMask = b2 := by
      rw [← h2, hsMask_eq_twoPow, and_not_or_bitAt_hasBit b2 (by decide)]
    have hb4 : cfg.escBase ||| bitAt (hasBit b4 escMask) escMask = b4 := by
      rw [← h4, escMask_eq_twoPow, and_not_or_bitAt_hasBit b4 (by decide)]
    simp [outboundFrame, hb2, hb4, h0, h1, h3, h5, h6]

/-! ## The rows of the code table (30_encoding.md R57) -/

/-- The row of the code table that a label names; the operand is the byte itself in the unknown row only. -/
def rowOf (b : Byte) : Label → Instr
  | .unknown => .stUnknown b
  | .idling => .stIdling
  | .accepting => .stAccepting
  | .escrowed => .stEscrowed
  | .stacking => .stStacking
  | .stacked => .stStacked
  | .returning => .stReturning
  | .returned => .stReturned
  | .stackedIdling => .stStackedIdling
  | .returnedIdling => .stReturnedIdling

/-- A byte is read as the row of its label. -/
theorem stateInstr_eq (cfg : Cfg) (b : Byte) : stateInstr cfg b = rowOf b (labelOf cfg b) := by
  cases h : labelOf cfg b <;> simp [stateInstr, rowOf, h]

/-- A key of the code table is read as the row of its label, when the keys are distinct. -/
theorem decode_stateBytes {cfg : Cfg} (hwf : cfg.wf = true) {l : Label} {b : Byte} (hcode : codeOf cfg l = some b) :
    decode cfg .stateCode (stateBytes cfg l) = .instr (rowOf b l) := by
  obtain ⟨-, -, -, -, -, -, -, hnd, -⟩ := cfg.wf_iff.mp hwf
  simp [stateBytes, hcode, decode, decodeByte, stateInstr_eq, labelOf_of_codeOf hnd hcode]

/-- The row a byte is read as is encoded as that byte, for a key and for any other byte. -/
theorem encode_stateInstr (cfg : Cfg) (b : Byte) : encode cfg (stateInstr cfg b) = (.stateCode, [b]) := by
  rw [stateInstr_eq]
  obtain hcode | ⟨hun, -⟩ := labelOf_cases cfg b
  · cases hl : labelOf cfg b with
    | unknown => rfl
    | _ => simpa [hl, rowOf, encode, stateBytes, codeOf] using hcode
  · rw [hun]
    rfl

/-- The row a byte is read as is well-formed: it is the unknown row only for a byte that is no key. -/
theorem stateInstr_wf (cfg : Cfg) (b : Byte) : (stateInstr cfg b).wf cfg = true := by
  cases hl : labelOf cfg b <;> simp [stateInstr_eq, hl, rowOf, Instr.wf]

/-! ## The codes of the phases and of the host commands (30_encoding.md R66, R67) -/

/-- A `PHASE` code is the code of the phase operation it decodes to. -/
theorem encode_of_phaseInstr {cfg : Cfg} {b : Byte} {i : Instr} (h : phaseInstr b = .instr i) :
    encode cfg i = (.phase, [b]) ∧ i.wf cfg = true := by
  have hcode {k : Nat} (hb : b.toNat = k) : b = BitVec.ofNat 8 k := by
    rw [← hb, BitVec.ofNat_toNat, BitVec.setWidth_eq]
  unfold phaseInstr at h
  split at h <;> cases h <;> exact ⟨by rw [hcode ‹_›]; rfl, rfl⟩

/-- A three-bit code is the encoding of its command. -/
theorem encode_commandOf (cfg : Cfg) (c : BitVec 3) :
    encode cfg (Machine.commandOf c) = (.hostCmd, [c.setWidth 8]) ∧ (Machine.commandOf c).wf cfg = true := by
  have hdefault : ∀ c : BitVec 3, encode Cfg.default (Machine.commandOf c) = (.hostCmd, [c.setWidth 8]) := by decide
  rw [← hdefault c]
  unfold Machine.commandOf
  split <;> exact ⟨rfl, rfl⟩

/-- A byte that decodes to a host command has three bits, and is the encoding of that command. -/
theorem encode_of_hostInstr {cfg : Cfg} {b : Byte} {i : Instr} (h : hostInstr b = .instr i) :
    encode cfg i = (.hostCmd, [b]) ∧ i.wf cfg = true := by
  by_cases hb : 8 ≤ b.toNat
  · simp [hostInstr, hb] at h
  · have hwidth : (b.setWidth 3).setWidth 8 = b := by
      apply BitVec.eq_of_toNat_eq
      simp only [BitVec.toNat_setWidth]
      omega
    have hdecode := Machine.decode_hostCmd cfg (b.setWidth 3)
    rw [hwidth] at hdecode
    cases h.symm.trans hdecode
    simpa [hwidth] using encode_commandOf cfg (b.setWidth 3)

/-! ## One operand byte -/

/-- A row whose operand is one byte is encoded as that byte, when every byte is. -/
theorem encode_of_decodeByte {cfg : Cfg} {p : Port} {mk : Byte → Instr} {bs : List Byte} {i : Instr}
    (h : decodeByte mk bs = .instr i) (hmk : ∀ b, encode cfg (mk b) = (p, [b]) ∧ (mk b).wf cfg = true) :
    encode cfg i = (p, bs) ∧ i.wf cfg = true := by
  unfold decodeByte at h
  split at h <;> cases h
  exact hmk _

/-! ## The obligations -/

/-- Settles O1, constructor by constructor: the two frames need that the variable bits are clear in their patterns, the
nine codes that they are distinct, and the rest is a row's own clause of the decoder. -/
theorem decodeReadsBackEveryEncoding : Obligations.DecodeReadsBackEveryEncoding := by
  intro cfg i hcfg hi
  cases i with
  | poll h e c => simp [encode, decode, readOutbound_outboundFrame hcfg]
  | buildOutbound h e =>
    simp [encode, decode, buildOutboundFrame, readOutbound_outboundFrame hcfg]
  | status f => exact if_neg (Nat.not_lt.mpr (of_decide_eq_true hi))
  | checksum f => exact if_neg (Nat.not_le.mpr (of_decide_eq_true hi))
  | stUnknown b => simp [encode, decode, decodeByte, stateInstr_eq, of_decide_eq_true hi, rowOf]
  | stIdling => exact decode_stateBytes hcfg (l := .idling) rfl
  | stAccepting => exact decode_stateBytes hcfg (l := .accepting) rfl
  | stEscrowed => exact decode_stateBytes hcfg (l := .escrowed) rfl
  | stStacking => exact decode_stateBytes hcfg (l := .stacking) rfl
  | stStacked => exact decode_stateBytes hcfg (l := .stacked) rfl
  | stReturning => exact decode_stateBytes hcfg (l := .returning) rfl
  | stReturned => exact decode_stateBytes hcfg (l := .returned) rfl
  | stStackedIdling => exact decode_stateBytes hcfg (l := .stackedIdling) rfl
  | stReturnedIdling => exact decode_stateBytes hcfg (l := .returnedIdling) rfl
  | setEscrowIntent a | setVerbose a | requestStop a | blockUntilStopped a => cases a <;> rfl
  | _ => rfl

/-- Settles O2, port by port. -/
theorem everyDecodedWordIsItsEncoding : Obligations.EveryDecodedWordIsItsEncoding := by
  intro cfg p bs i h
  cases p with
  | out8 =>
    simp only [decode] at h
    split at h <;> cases h
    rename_i f hf
    exact ⟨by rw [eq_outboundFrame_of_readOutbound hf]; rfl, fun hp => absurd rfl hp⟩
  | in6 =>
    simp only [decode] at h
    split_ifs at h with hlen
    cases h
    exact ⟨rfl, fun _ => decide_eq_true (Nat.not_lt.mp hlen)⟩
  | checksum =>
    simp only [decode] at h
    split_ifs at h with hlen
    cases h
    exact ⟨rfl, fun _ => decide_eq_true (Nat.not_le.mp hlen)⟩
  | buildOutbound =>
    simp only [decode] at h
    split at h
    case h_2 => cases h
    case h_1 f hf =>
      split_ifs at h with hck
      cases h
      refine ⟨?_, fun _ => rfl⟩
      rw [eq_outboundFrame_of_readOutbound hf, hck]
      rfl
  | parseInbound =>
    cases h
    exact ⟨rfl, fun _ => rfl⟩
  | describe =>
    simp only [decode] at h
    split at h <;> cases h
    exact ⟨rfl, fun _ => rfl⟩
  | stateCode =>
    obtain ⟨henc, hwf⟩ := encode_of_decodeByte h fun b => ⟨encode_stateInstr cfg b, stateInstr_wf cfg b⟩
    exact ⟨henc, fun _ => hwf⟩
  | phase =>
    simp only [decode] at h
    split at h
    case h_2 => cases h
    case h_1 b =>
      obtain ⟨henc, hwf⟩ := encode_of_phaseInstr (cfg := cfg) h
      exact ⟨henc, fun _ => hwf⟩
  | hostCmd =>
    simp only [decode] at h
    split at h
    case h_2 => cases h
    case h_1 b =>
      obtain ⟨henc, hwf⟩ := encode_of_hostInstr (cfg := cfg) h
      exact ⟨henc, fun _ => hwf⟩
  | _ =>
    obtain ⟨henc, hwf⟩ := encode_of_decodeByte (cfg := cfg) h fun b => ⟨rfl, rfl⟩
    exact ⟨henc, fun _ => hwf⟩

/-- Settles O3: each word is evaluated by the decoder. -/
theorem tableWordsDecodeToTheirInstructions : Obligations.TableWordsDecodeToTheirInstructions := by
  unfold Obligations.TableWordsDecodeToTheirInstructions
  decide

end Sys2Proof

/-! The laws of the outbound frame, the leniency of PARSE_INBOUND and the interpreter's readings (40_frame_codec.md R81,
R83, R85, 41_status_interpreter.md R91, R95 to R98, 30_encoding.md R56 to R64), and the obligations about them. -/

namespace Sys2Proof

/-! ## The bytes of the outbound frame that vary -/

/-- Offset 2 of a frame: the pattern with the handshake bit (R51). -/
theorem buildOutboundFrame_getElem_two (cfg : Cfg) (h e : Bool) :
    (buildOutboundFrame cfg h e)[2] = cfg.cmdPattern ||| bitAt h hsMask := rfl

/-- Offset 4 of a frame: the pattern with the escrow-control bit (R51). -/
theorem buildOutboundFrame_getElem_four (cfg : Cfg) (h e : Bool) :
    (buildOutboundFrame cfg h e)[4] = cfg.escBase ||| bitAt e escMask := rfl

/-- Offset 7 of a frame: its checksum (R52). -/
theorem buildOutboundFrame_getElem_seven (cfg : Cfg) (h e : Bool) :
    (buildOutboundFrame cfg h e)[7] = frameChecksum cfg h e := rfl

/-! ## Exclusive-or and a one-bit field -/

/-- Where no bit is set in both, or is exclusive-or. -/
theorem or_eq_xor_of_and_eq_zero {w : Nat} {x y : BitVec w} (h : x &&& y = 0) : x ||| y = x ^^^ y := by
  apply BitVec.eq_of_getLsbD_eq
  intro i _
  have hbit := congrArg (BitVec.getLsbD · i) h
  revert hbit
  cases hx : x.getLsbD i <;> cases hy : y.getLsbD i <;> simp [hx, hy]

/-- A field beside a pattern that leaves it clear is that pattern with the field's bit flipped in. -/
theorem or_bitAt_eq_xor {x m : Byte} (hx : x &&& m = 0) (b : Bool) : x ||| bitAt b m = x ^^^ bitAt b m :=
  or_eq_xor_of_and_eq_zero (by cases b <;> simp [bitAt, hx])

/-- Complementing the bit flips its mask. -/
theorem bitAt_not (b : Bool) (m : Byte) : bitAt (!b) m = bitAt b m ^^^ m := by
  cases b <;> simp [bitAt]

/-- Masking a field out of its byte leaves its bit in place. -/
theorem or_bitAt_and {x m : Byte} (hx : x &&& m = 0) (b : Bool) : (x ||| bitAt b m) &&& m = bitAt b m := by
  cases b <;> simp [bitAt, BitVec.and_or_distrib_right, hx]

/-- The test of a one-bit field, as an inequality (R56). -/
theorem hasBit_iff (b m : Byte) : hasBit b m = true ↔ b &&& m ≠ 0 := by
  simp [hasBit]

/-! ## The laws of the checksum and of BUILD_OUTBOUND -/

/-- The checksum splits into its constant part and the two variable bits (R83). -/
theorem frameChecksum_eq_xor {cfg : Cfg} (hwf : cfg.wf = true) (h e : Bool) :
    frameChecksum cfg h e =
      cfg.len ^^^ cfg.cmdPattern ^^^ cfg.cmdByte ^^^ cfg.escBase ^^^ cfg.rsvd
        ^^^ bitAt h hsMask ^^^ bitAt e escMask := by
  obtain ⟨hcmd, hesc, -⟩ := cfg.wf_iff.mp hwf
  rw [frameChecksum_eq, or_bitAt_eq_xor hcmd, or_bitAt_eq_xor hesc]
  ac_rfl

/-- The escrow-control bit of a frame is set exactly when its escrow operand is. -/
theorem buildOutboundFrame_escrow_iff {cfg : Cfg} (hwf : cfg.wf = true) (h e : Bool) :
    (buildOutboundFrame cfg h e)[4] &&& 0x20 ≠ 0 ↔ e = true := by
  obtain ⟨-, hesc, -⟩ := cfg.wf_iff.mp hwf
  rw [buildOutboundFrame_getElem_four]
  calc (cfg.escBase ||| bitAt e escMask) &&& 0x20 ≠ 0
    _ ↔ hasBit (cfg.escBase ||| bitAt e escMask) escMask = true := (hasBit_iff _ escMask).symm
    _ ↔ e = true := by rw [hasBit_or_bitAt hesc (by decide)]

/-- The handshake bit of a frame is its handshake operand. -/
theorem buildOutboundFrame_handshake {cfg : Cfg} (hwf : cfg.wf = true) (h e : Bool) :
    (buildOutboundFrame cfg h e)[2] &&& 0x01 = bitAt h hsMask := by
  obtain ⟨hcmd, -⟩ := cfg.wf_iff.mp hwf
  rw [buildOutboundFrame_getElem_two]
  exact or_bitAt_and hcmd h

/-- With the default `Cfg`, every byte of a frame has bit 7 clear. -/
theorem buildOutboundFrame_default_bit7 : ∀ h e, ∀ b ∈ (buildOutboundFrame Cfg.default h e).toList,
    b.getLsbD 7 = false := by decide

end Sys2Proof

namespace Sys2Proof.Machine

/-- Settles O6: F is the frame BUILD_OUTBOUND assembles; the checksum laws follow from its split. -/
theorem outboundFrameLaws : Obligations.OutboundFrameLaws := by
  intro cfg hwf
  refine ⟨buildOutboundFrame cfg, ?_, fun h e => ?_⟩
  · rintro s h e rfl
    exact exec_buildOutbound h e s
  have hck := frameChecksum_eq_xor hwf
  refine ⟨buildOutboundFrame_escrow_iff hwf h e, buildOutboundFrame_handshake hwf h e, frameChecksum_eq cfg h e, ?_,
    ?_, ?_, rfl, rfl, hck h e, fun _ _ => ⟨rfl, rfl, rfl, rfl, rfl⟩, ?_⟩
  · rw [buildOutboundFrame_getElem_seven, frameChecksum_eq]
    exact BitVec.xor_self
  · simp only [buildOutboundFrame_getElem_seven, hck, bitAt_not]
    change _ = _ ^^^ hsMask
    ac_rfl
  · simp only [buildOutboundFrame_getElem_seven, hck, bitAt_not]
    change _ = _ ^^^ escMask
    ac_rfl
  · rintro rfl
    exact ⟨buildOutboundFrame_default_bit7 h e, by decide, by decide, by decide, by decide⟩

/-- Settles O8: both sequences parse to the bytes at the three offsets, which are the same bytes. -/
theorem parseInboundIgnoresEveryOtherByte : Obligations.ParseInboundIgnoresEveryOtherByte := by
  intro s a b hwf ha hb hst hev hcr
  obtain ⟨st, ev, cr, hst', hev', hcr', hexec⟩ := (parseInboundReadsByPosition s a hwf).2 ha
  refine ⟨.frame ⟨st, ev, cr⟩, hexec, ?_⟩
  rw [exec_parseInbound,
    parseInboundBytes_of_getElem? hb (hst.symm.trans hst') (hev.symm.trans hev') (hcr.symm.trans hcr')]

/-! ## The readings -/

/-- A reading of a primary-state byte, with its two bits read off the byte (R56, R57). -/
theorem readState_eq (cfg : Cfg) (b : Byte) :
    readState cfg b =
      ⟨b, labelOf cfg b, labelText cfg (labelOf cfg b), b.getLsbD 2, b.getLsbD 4, unknownStateByte cfg b⟩ := by
  rw [← escrowBit_eq, ← acceptBit_eq]
  rfl

/-- The key of a label reads as that label, without a diagnostic. -/
theorem readState_of_codeOf {cfg : Cfg} (hwf : cfg.wf = true) {l : Label} {b : Byte} (h : codeOf cfg l = some b) :
    readState cfg b = ⟨b, l, labelText cfg l, b.getLsbD 2, b.getLsbD 4, none⟩ := by
  obtain ⟨-, -, -, -, -, -, -, hnd, -⟩ := cfg.wf_iff.mp hwf
  rw [readState_eq, labelOf_of_codeOf hnd h, unknownStateByte_eq, if_pos (mem_codes_of_codeOf h)]

/-- A tested event bit, read off the byte at its position. -/
theorem eventFlag_twoPow (e : Byte) {i : Nat} (hi : i < 8) (text : String) :
    eventFlag e (BitVec.twoPow 8 i) text = .flag (e.getLsbD i) (if e.getLsbD i then text else "") := by
  rw [eventFlag, hasBit_twoPow e hi]

/-- Settles O10: the two tests, as operations and as rows, read bits 2 and 4. -/
theorem escrowAndAcceptTestsReadRawBits : Obligations.EscrowAndAcceptTestsReadRawBits := by
  intro s b
  rw [← escrowBit_eq, ← acceptBit_eq]
  exact ⟨rfl, rfl, rfl, rfl⟩

/-- Two event bytes equal in bits 0 to 4 have the same event flags and the same cassette bit. -/
theorem eventFields_congr {e e' : Byte} (h : e &&& 0x1F = e' &&& 0x1F) :
    eventFlags e = eventFlags e' ∧ cassetteMissing e = cassetteMissing e' := by
  have hbit {i : Nat} (hi : i < 5) : e.getLsbD i = e'.getLsbD i := by
    have hmask : (31#8).getLsbD i = true := by interval_cases i <;> rfl
    simpa [hmask] using congrArg (BitVec.getLsbD · i) h
  constructor
  · apply BitVec.eq_of_getLsbD_eq
    intro i hi
    rw [getLsbD_eventFlags e hi, getLsbD_eventFlags e' hi, hbit (Nat.lt_succ_of_lt hi)]
  · rw [cassetteMissing_eq, cassetteMissing_eq, hbit (by decide)]

/-- Settles O13: the composite is made of the label, the event flags and the cassette bit. -/
theorem compositeForgetsTheOtherBits : Obligations.CompositeForgetsTheOtherBits := by
  intro s b b' e e' l t d d' hb hb' he
  obtain ⟨hev, hmiss⟩ := eventFields_congr he
  simp only [exec_primaryLabel, Host.Outcome.next.injEq, State.mk.injEq, Ret.label.injEq, true_and] at hb hb'
  obtain ⟨hl, ht, hd⟩ := hb
  obtain ⟨hl', ht', hd'⟩ := hb'
  refine ⟨_, _, escrowBit b, escrowBit b', by rw [exec_describe, hd], ?_⟩
  rw [exec_describe, hd', hl', ← hev, ← hmiss, hl]

/-- Settles O14: both readings extract the same field. -/
theorem creditFieldIsBitsFiveToThree : Obligations.CreditFieldIsBitsFiveToThree := fun _ c =>
  ⟨creditDenomOf c, creditDenomOf_val c, rfl, rfl⟩

/-- Settles O16: each row reads the key of its label. -/
theorem nineCodesReadAsTheirLabels : Obligations.NineCodesReadAsTheirLabels := by
  intro s hwf reading
  obtain ⟨-, -, -, -, -, -, -, -, hescrowed, -⟩ := s.cfg.wf_iff.mp hwf
  have row {l : Label} {c : Byte} (h : codeOf s.cfg l = some c) :
      (Host.Outcome.next (withRet (.state (readState s.cfg c)) s) : Host.Outcome State Fault Refusal)
        = .next (reading c l (labelText s.cfg l)) := by
    rw [readState_of_codeOf hwf h]
    rfl
  exact ⟨row (l := .idling) rfl, row (l := .accepting) rfl, hescrowed ▸ row (l := .escrowed) rfl,
    row (l := .stacking) rfl, row (l := .stacked) rfl, row (l := .returning) rfl, row (l := .returned) rfl,
    row (l := .stackedIdling) rfl, row (l := .returnedIdling) rfl⟩

/-- Settles O17: a byte that is no key is looked up to the unknown label. -/
theorem unknownCodeReadsAsEmptyLabel : Obligations.UnknownCodeReadsAsEmptyLabel := by
  intro s b hb
  have hread : readState s.cfg b = ⟨b, .unknown, "", b.getLsbD 2, b.getLsbD 4, some b⟩ := by
    rw [readState_eq, unknownStateByte_eq, if_neg hb, (labelOf_eq_unknown_iff s.cfg b).mpr hb]
    rfl
  exact congrArg (fun r => Host.Outcome.next (withRet (.state r) s)) hread

/-- Settles O18: each mask is one bit, and the cassette's is read both ways. -/
theorem eventBitsAreTestedOneByOne : Obligations.EventBitsAreTestedOneByOne := by
  intro s e
  have row {r r' : Ret} (h : r = r') :
      (Host.Outcome.next (withRet r s) : Host.Outcome State Fault Refusal) = .next { s with ret := r' } := by
    rw [h]
    rfl
  refine ⟨row (eventFlag_twoPow e (i := 0) (by decide) _), row (eventFlag_twoPow e (i := 1) (by decide) _),
    row (eventFlag_twoPow e (i := 2) (by decide) _), row (eventFlag_twoPow e (i := 3) (by decide) _), row ?_, rfl⟩
  rw [← markerText_cassetteMissing, cassetteMissing, ← hasBit_twoPow e (i := 4) (by decide)]
  rfl

end Sys2Proof.Machine

/-! Unique decomposition of the default strings (00_scope.md R6, 41_status_interpreter.md R96): every rendered string is
a sequence of words no one of which begins another, so the string determines the words, and the words the triple. -/

namespace Sys2Proof

/-! ## Concatenations of words none of which begins another -/

/-- No word begins another. -/
def BeginsNoOther {α : Type} (W : List (List α)) : Prop :=
  ∀ v ∈ W, ∀ w ∈ W, v <+: w → v = w

/-- A set of non-empty words none of which begins another is uniquely decodable. -/
theorem BeginsNoOther.uniquelyDecodable {α : Type} {W : List (List α)} (hW : BeginsNoOther W) (hne : [] ∉ W) :
    InformationTheory.UniquelyDecodable {w | w ∈ W} := by
  intro L
  induction L with
  | nil =>
    intro M _ hM hflat
    cases M with
    | nil => rfl
    | cons w M =>
      have hw : w = [] := (List.append_eq_nil_iff.mp hflat.symm).1
      exact absurd (hw ▸ hM w List.mem_cons_self) hne
  | cons v L ih =>
    intro M hL hM hflat
    have hv : v ∈ W := hL v List.mem_cons_self
    cases M with
    | nil =>
      have hv' : v = [] := (List.append_eq_nil_iff.mp hflat).1
      exact absurd (hv' ▸ hv) hne
    | cons w M =>
      have hw : w ∈ W := hM w List.mem_cons_self
      have hflat' : v ++ L.flatten = w ++ M.flatten := hflat
      have hvw : v = w := by
        obtain h | h := List.prefix_or_prefix_of_prefix (List.prefix_append v L.flatten)
          (hflat' ▸ List.prefix_append w M.flatten)
        · exact hW v hv w hw h
        · exact (hW w hw v hv h).symm
      subst hvw
      rw [ih M (fun x hx => hL x (List.mem_cons_of_mem _ hx)) (fun x hx => hM x (List.mem_cons_of_mem _ hx))
        (List.append_cancel_left hflat')]

/-! ## The words of the default strings -/

/-- The words that the default labels, event labels and marker are made of. -/
def defaultWords : List String :=
  ["Idling ", "Accepting ", "Escrowed ", "Stacking ", "Stacked ", "Returning ", "Returned ", "Cheated ", "Rejected ",
    "Jammed ", "Full ", "CASSETTE MISSING"]

/-- The words of a default label. -/
def labelWords : Label → List String
  | .unknown => []
  | .stackedIdling => ["Stacked ", "Idling "]
  | .returnedIdling => ["Returned ", "Idling "]
  | l => [labelText Cfg.default l]

/-- The words of a composite under the default strings. -/
def compositeWords (c : Composite) : List String :=
  labelWords c.label ++ (if c.ev.getLsbD 0 then ["Cheated "] else []) ++ (if c.ev.getLsbD 1 then ["Rejected "] else [])
    ++ (if c.ev.getLsbD 2 then ["Jammed "] else []) ++ (if c.ev.getLsbD 3 then ["Full "] else [])
    ++ (if c.miss then ["CASSETTE MISSING"] else [])

/-- The default string of a composite is its words one after the other. -/
theorem render_default_toList (c : Composite) :
    (render Cfg.default c).toList = ((compositeWords c).map String.toList).flatten := by
  have hlabel : (labelText Cfg.default c.label).toList = ((labelWords c.label).map String.toList).flatten := by
    cases c.label <;> rfl
  have optional (b : Bool) (w : String) :
      (if b then w else "").toList = ((if b then [w] else []).map String.toList).flatten := by
    cases b <;> simp
  simp only [render, eventText, markerText, compositeWords, String.toList_append, List.map_append, List.flatten_append,
    hlabel, ← optional, List.append_assoc]
  rfl

/-- The words of a composite are among the default words. -/
theorem mem_defaultWords_of_mem_compositeWords {c : Composite} {w : String} (h : w ∈ compositeWords c) :
    w ∈ defaultWords := by
  have hlabel : ∀ w ∈ labelWords c.label, w ∈ defaultWords := by cases c.label <;> decide
  have optional {b : Bool} {v : String} (hv : v ∈ defaultWords) : ∀ w ∈ (if b then [v] else []), w ∈ defaultWords := by
    cases b <;> simp [hv]
  simp only [compositeWords, List.mem_append] at h
  obtain ((((h | h) | h) | h) | h) | h := h
  · exact hlabel w h
  all_goals exact optional (by decide) w h

/-- No default word begins another, and none is empty. -/
theorem defaultWords_beginsNoOther :
    BeginsNoOther (defaultWords.map String.toList) ∧ [] ∉ defaultWords.map String.toList := by
  unfold BeginsNoOther
  decide

/-- The words of a composite, one by one. -/
theorem mem_compositeWords_iff (w : String) (c : Composite) :
    w ∈ compositeWords c ↔ w ∈ labelWords c.label ∨ c.ev.getLsbD 0 = true ∧ w = "Cheated "
      ∨ c.ev.getLsbD 1 = true ∧ w = "Rejected " ∨ c.ev.getLsbD 2 = true ∧ w = "Jammed "
      ∨ c.ev.getLsbD 3 = true ∧ w = "Full " ∨ c.miss = true ∧ w = "CASSETTE MISSING" := by
  have optional (b : Bool) (v : String) : (w ∈ if b then [v] else []) ↔ b = true ∧ w = v := by
    cases b <;> simp
  simp only [compositeWords, List.mem_append, optional, or_assoc]

/-- No word of the event and marker part is a word of a label. -/
theorem notMem_labelWords (l : Label) :
    ∀ w ∈ ["Cheated ", "Rejected ", "Jammed ", "Full ", "CASSETTE MISSING"], w ∉ labelWords l := by
  cases l <;> decide

/-- A label is determined by its words. -/
theorem label_eq_of_words (l l' : Label)
    (h : ∀ w ∈ defaultWords.take 7, w ∈ labelWords l ↔ w ∈ labelWords l') : l = l' := by
  have hall : ∀ l ∈ Label.all, ∀ l' ∈ Label.all,
      (∀ w ∈ defaultWords.take 7, w ∈ labelWords l ↔ w ∈ labelWords l') → l = l' := by decide
  exact hall l (List.mem_of_getElem? l.all_getElem?_id) l' (List.mem_of_getElem? l'.all_getElem?_id) h

/-- The words determine the composite: each field is read off by which words are there. -/
theorem compositeWords_injective : Function.Injective compositeWords := by
  intro c d h
  have same (w : String) : w ∈ compositeWords c ↔ w ∈ compositeWords d := by rw [h]
  simp only [mem_compositeWords_iff] at same
  obtain ⟨l, ev, miss⟩ := c
  obtain ⟨l', ev', miss'⟩ := d
  have hlabel : l = l' := by
    refine label_eq_of_words l l' fun w hw => ?_
    have hne : w ∉ ["Cheated ", "Rejected ", "Jammed ", "Full ", "CASSETTE MISSING"] := by
      revert w
      decide
    simp only [List.mem_cons, List.not_mem_nil, or_false, not_or] at hne
    simpa [hne] using same w
  subst hlabel
  have habsent := notMem_labelWords l
  simp only [List.forall_mem_cons] at habsent
  obtain ⟨hcheated, hrejected, hjammed, hfull, hmarker, -⟩ := habsent
  have hev : ev = ev' := by
    refine BitVec.eq_of_getLsbD_eq fun i hi => Bool.eq_iff_iff.mpr ?_
    interval_cases i
    · simpa [hcheated] using same "Cheated "
    · simpa [hrejected] using same "Rejected "
    · simpa [hjammed] using same "Jammed "
    · simpa [hfull] using same "Full "
  have hmiss : miss = miss' := Bool.eq_iff_iff.mpr (by simpa [hmarker] using same "CASSETTE MISSING")
  rw [hev, hmiss]

/-- Equal default strings have equal words. -/
theorem compositeWords_eq_of_render_eq {c d : Composite} (h : render Cfg.default c = render Cfg.default d) :
    compositeWords c = compositeWords d := by
  obtain ⟨hbegins, hne⟩ := defaultWords_beginsNoOther
  have hwords (c : Composite) : ∀ w ∈ (compositeWords c).map String.toList, w ∈ defaultWords.map String.toList := by
    intro w hw
    obtain ⟨v, hv, rfl⟩ := List.mem_map.mp hw
    exact List.mem_map_of_mem (mem_defaultWords_of_mem_compositeWords hv)
  have hflat := congrArg String.toList h
  rw [render_default_toList, render_default_toList] at hflat
  have hlists := hbegins.uniquelyDecodable hne _ _ (hwords c) (hwords d) hflat
  exact List.map_injective_iff.mpr (fun _ _ => String.toList_inj.mp) hlists

/-- Settles O15: equal strings have equal words, which belong to one composite. -/
theorem defaultStringsDecomposeUniquely : Obligations.DefaultStringsDecomposeUniquely :=
  ⟨by decide, by decide, fun _ _ h => compositeWords_injective (compositeWords_eq_of_render_eq h)⟩

end Sys2Proof

/-! The phases that test, send, drain, report, wait and end (42_acceptor_session.md R101, R102, R104, R105, R108, R109,
R111, R112), the fatal path (60_exceptions.md R149), the host's wait and the turns of the interleaving (20_memory.md
R41): one rule each, and the obligations about them. -/

namespace Sys2Proof.Machine

/-! ## The remaining phases, one rule each -/

/-- S0 (R101). -/
theorem exec_s0 (s : State) :
    exec .s0TestRun s = .next { s with cycleT := 0, phase := if s.run then .s1 else .exit } := rfl

/-- S1 (R102). -/
theorem exec_s1 (s : State) :
    exec .s1Build s =
      .next { s with mem := loadTx (buildOutboundFrame s.cfg s.hs s.esc) s.mem, phase := .s2 } := rfl

/-- S8 (R109). -/
theorem exec_s8 (s : State) :
    exec .s8Trace s =
      .next { s with
        out := s.out ++ (if s.verbose then [.diagnostic (.trace (received s.mem))] else []), phase := .s9 } := by
  cases h : s.verbose <;> simp [exec, execS8Trace, h, emit, goto]

/-- S10 (R111): what is left of the interval is waited for, and nothing when it is over already. -/
theorem exec_s10 (s : State) :
    exec .s10Sleep s = .next { s with cycleT := max s.cycleT s.cfg.tPoll, phase := .s0 } := by
  have htime : s.cycleT + (s.cfg.tPoll - s.cycleT) = max s.cycleT s.cfg.tPoll := by omega
  simp [exec, execS10Sleep, wait, goto, htime]

/-- POLL is phase S3 on its own frame (R104, R130). -/
theorem exec_poll (h e : Bool) (c : Byte) (s : State) :
    exec (.poll h e c) s = exec .s3WriteWait { s with mem := loadTx (outboundFrame s.cfg h e c) s.mem } := rfl

/-- S3 when the write succeeds (R104). -/
theorem exec_s3_of_success {s : State} (h : s.answers.txWriteFails = false) :
    exec .s3WriteWait s = .next { s with
      calls := s.calls ++ [.txWrite]
      txs := s.txs ++ s.mem.txbuf.toList
      cycleT := s.cycleT + s.cfg.tTurnaround
      phase := .s4 } := by
  simp [exec_s3, writeFrame_eq, h]

/-- A queue is drained unless it is longer than a finite `RX_DEPTH` (U5). -/
theorem exceedsDepth_eq_false_iff (cfg : Cfg) (n : Nat) :
    exceedsDepth cfg n = false ↔ ∀ d, cfg.rxDepth = some d → n ≤ d := by
  unfold exceedsDepth
  cases cfg.rxDepth <;> simp

/-- S4 on an empty queue (R105). -/
theorem exec_s4_of_empty {s : State} (ha : s.answers.rxAvailFails = false) (hq : s.rxq = []) :
    exec .s4Drain s = .next { s with calls := s.calls ++ [.rxAvail], mem := clearRx s.mem, phase := .s10 } := by
  simp [exec_s4, ha, hq]

/-- S4 on a queue that is not empty and fits, when the read succeeds (R105). -/
theorem exec_s4_of_read {s : State} (ha : s.answers.rxAvailFails = false) (hq : s.rxq ≠ [])
    (hr : s.answers.rxReadFails = false) (hd : ∀ n, s.cfg.rxDepth = some n → s.rxq.length ≤ n) :
    exec .s4Drain s = .next { s with
      calls := s.calls ++ [.rxAvail, .rxRead], rxq := [], mem := loadRx s.rxq s.mem, phase := .s5 } := by
  simp [exec_s4, ha, hq, hr, (exceedsDepth_eq_false_iff _ _).mpr hd]

/-! ## Obligations about single operations -/

/-- Settles O19: POLL is S3 on its frame, and S3 sends what stands in `TXBUF`. -/
theorem pollSendsItsFrame : Obligations.PollSendsItsFrame := by
  intro s h e c hok frame
  exact exec_s3_of_success (s := { s with mem := loadTx frame s.mem }) hok

/-- Settles O20: what decodes to a POLL is the frame of that POLL, so that putting it in `TXBUF` changes nothing. -/
theorem s3RunsThePollInTxbuf : Obligations.S3RunsThePollInTxbuf := by
  intro s h e c hdecode
  obtain ⟨hencode, -⟩ := everyDecodedWordIsItsEncoding _ _ _ _ hdecode
  have hframe : outboundFrame s.cfg h e c = s.mem.txbuf := Vector.toList_inj.mp (Prod.ext_iff.mp hencode).2
  rw [exec_poll, hframe]
  rfl

/-- Settles O21: the rule of S0. -/
theorem s0TestsRun : Obligations.S0TestsRun := exec_s0

/-- Settles O22: the frame is what BUILD_OUTBOUND leaves for the same two flags. -/
theorem s1BuildsFromHsAndEsc : Obligations.S1BuildsFromHsAndEsc := fun s =>
  ⟨_, exec_buildOutbound s.hs s.esc s, exec_s1 s⟩

/-- Settles O24: the rule of S3 for a write that succeeds. -/
theorem s3WritesTheWholeFrame : Obligations.S3WritesTheWholeFrame := fun _ => exec_s3_of_success

/-- Settles O25: one rule for each length of the queue. -/
theorem s4DrainsWhatIsAvailable : Obligations.S4DrainsWhatIsAvailable := fun _ ha =>
  ⟨exec_s4_of_empty ha, exec_s4_of_read ha⟩

/-- Settles O29: after S7 the status is the last one reported, or has its string. -/
theorem sameStatusIsReportedOnce : Obligations.SameStatusIsReportedOnce := by
  intro s t h
  have hquiet : statusChanged t.cfg t.last t.status = false ∧ t.phase = .s8 := by
    rw [exec_s7] at h
    split at h <;> cases h
    · exact ⟨by simp [statusChanged], rfl⟩
    · exact ⟨Bool.eq_false_iff.mpr ‹_›, rfl⟩
  obtain ⟨hsame, hphase⟩ := hquiet
  rw [exec_s7, hsame, ← hphase]
  rfl

/-- Settles O30: S8's rule for each value of `VERBOSE`. -/
theorem s8TracesInVerboseMode : Obligations.S8TracesInVerboseMode := by
  intro s
  rw [exec_s8]
  constructor
  · intro hverbose
    rw [hverbose]
    rfl
  · intro hquiet
    simp [hquiet]

/-- Settles O32: the rule of S10, where the wait for the remainder is a maximum. -/
theorem s10WaitsTheRemainder : Obligations.S10WaitsTheRemainder := exec_s10

/-- Settles O33: the branch of EXIT whose close succeeds. -/
theorem exitClosesTheTransport : Obligations.ExitClosesTheTransport := by
  intro s hok
  rw [exec_exit, hok]
  rfl

/-- Settles O34: each failure is the fatal path from the state its operation leaves. -/
theorem transportFailureTakesTheFatalPath : Obligations.TransportFailureTakesTheFatalPath := by
  intro s
  refine ⟨fun hfail => ⟨Config.failedWritePrefix s.draws, ?_⟩, fun hfail => ?_, fun hok hq hd hfail => ?_,
    fun hfail => ?_⟩
  · simp [exec_s3, writeFrame_eq, hfail, fatalPath_eq]
  · simp [exec_s4, hfail, fatalPath_eq]
  · refine ⟨_, afterFailedRead_sublist s.draws s.rxq.length s.rxq, ?_⟩
    simp [exec_s4, hok, hq, (exceedsDepth_eq_false_iff _ _).mpr hd, hfail, fatalPath_eq]
  · simp [exec_exit, hfail, fatalPath_eq]

/-- Settles O35: the two finite limits and the short operand. -/
theorem formsThatStopByName : Obligations.FormsThatStopByName := by
  intro s
  refine ⟨fun d w hd hne haccept hw hfull => ?_, fun n ha hn hlong => ?_, fun f hf => ?_⟩
  · obtain rfl : d = creditDenomOf s.creditB := Fin.ext (hd.trans (creditDenomOf_val s.creditB).symm)
    have hmax : atMaximum s.cfg s.cnt[creditDenomOf s.creditB] = true := by
      rw [atMaximum, hw]
      exact decide_eq_true hfull
    rw [exec_s9, acceptBit_eq, if_pos ⟨hne, haccept⟩, if_pos hmax]
  · have hdepth : exceedsDepth s.cfg s.rxq.length = true := by
      rw [exceedsDepth, hn]
      exact decide_eq_true hlong
    have hq : s.rxq ≠ [] := List.ne_nil_of_length_pos (by omega)
    simp [exec_s4, ha, hq, hdepth]
  · exact if_pos (Nat.le_of_lt_succ hf)

/-! ## The host's wait and the turns -/

/-- BLOCK_UNTIL_STOPPED sets the host's wait outside the terminal phases (R124). -/
theorem exec_blockUntilStopped (x : Bool) (s : State) :
    exec (.blockUntilStopped x) s = .next { s with hostWaiting := !s.phase.isTerminal } := rfl

/-- The terminal phases (R113). -/
theorem isTerminal_iff (p : Phase) : p.isTerminal = true ↔ p = .stopped ∨ p = .faulted := by
  cases p <;> simp [Phase.isTerminal]

/-- Settles O37: the flag is set exactly outside the two terminal phases. -/
theorem blockUntilStoppedWaits : Obligations.BlockUntilStoppedWaits := by
  intro s x
  rw [exec_blockUntilStopped]
  constructor
  · intro hended
    rw [(isTerminal_iff s.phase).mpr hended]
    rfl
  · intro hstopped hfaulted
    have hlive : s.phase.isTerminal = false := by simp [← Bool.not_eq_true, isTerminal_iff, hstopped, hfaulted]
    rw [hlive]
    rfl

/-- A step whose turn is the host's, when it issues its next command. -/
theorem step_host {s : State} {ts : List Turn} {c : BitVec 3} {q : List (BitVec 3)} (hs : s.sched = .host :: ts)
    (hw : s.hostWaiting = false) (hq : s.hostQ = c :: q) :
    step s = exec (commandOf c) { s with sched := ts, hostQ := q } := by
  simp [step, fetch, hs, fetchTurn_host, hw, hq]

/-- A step whose turn is the host's, when it waits or has no command left. -/
theorem step_host_passes {s : State} {ts : List Turn} (hs : s.sched = .host :: ts)
    (h : s.hostWaiting = true ∨ s.hostQ = []) : step s = .next { s with sched := ts } := by
  obtain hw | hq := h
  · simp [step, fetch, hs, fetchTurn_host, hw]
  · cases hw : s.hostWaiting <;> simp [step, fetch, hs, fetchTurn_host, hq, hw]

/-- A step in which the environment's answers change. -/
theorem step_transport {s : State} {a : Answers} {ts : List Turn} (hs : s.sched = .transport a :: ts) :
    step s = .next { s with sched := ts, answers := a } := by
  simp [step, fetch, hs]

/-- A step in which time passes. -/
theorem step_elapse {s : State} {ms : Nat} {ts : List Turn} (hs : s.sched = .elapse ms :: ts) :
    step s = .next { s with sched := ts, cycleT := s.cycleT + ms } := by
  simp [step, fetch, hs, wait]

/-- A step that evaluates an operation its bytes decode to. -/
theorem step_operate {s : State} {p : Port} {bs : List Byte} {ts : List Turn} {i : Instr}
    (hs : s.sched = .operate p bs :: ts) (hp : p.isCombinational = true) (hd : decode s.cfg p bs = .instr i) :
    step s = exec i { s with sched := ts } := by
  simp [step, fetch, hs, fetchTurn, hp, hd, fetchDecoded]

/-- STATUS is an arrival of its frame (R54, R37). -/
theorem exec_status (frame : List Byte) (s : State) :
    exec (.status frame) s = .next { s with rxq := s.rxq ++ frame } := rfl

/-- Settles O41: one rule for each kind of turn, with the operation the turn's word decodes to. -/
theorem stepRunsTheDecodedInstruction : Obligations.StepRunsTheDecodedInstruction := by
  intro s i
  refine ⟨fun hs hd => ?_, fun ts hs hd => ?_, fun ts c q hs hw hq hd => ?_, fun ts bs hs hd => ?_,
    fun ts p bs hs hp hd => step_operate hs hp hd⟩
  · rw [decode_phase, Decoded.instr.injEq] at hd
    rw [step_idle s hs, hd]
  · rw [decode_phase, Decoded.instr.injEq] at hd
    rw [step_worker s ts hs, hd]
  · rw [decode_hostCmd, Decoded.instr.injEq] at hd
    rw [step_host hs hw hq, hd]
  · rw [decode_in6] at hd
    split_ifs at hd
    cases hd
    rw [step_arrive s bs ts hs, exec_status]

/-- Settles O42: one rule for each of the environment's turns. -/
theorem environmentTurnsLeaveTheBlockAlone : Obligations.EnvironmentTurnsLeaveTheBlockAlone := fun s ts =>
  ⟨fun frame => exec_status frame s, fun bs hs => step_arrive s bs ts hs, fun _ hs => step_transport hs,
    fun _ hs => step_elapse hs⟩

/-- Settles O39: the host's turn passes, or is one of its commands. -/
theorem hostTurnTouchesOnlyItsFlags : Obligations.HostTurnTouchesOnlyItsFlags := by
  intro s t ts hs h
  by_cases hpass : s.hostWaiting = true ∨ s.hostQ = []
  · rw [step_host_passes hs hpass] at h
    cases h
    exact ⟨rfl, id⟩
  · obtain ⟨hw, hne⟩ := not_or.mp hpass
    obtain ⟨c, q, hq⟩ := List.exists_cons_of_ne_nil hne
    rw [step_host hs (Bool.eq_false_iff.mpr hw) hq] at h
    obtain ht | ht | ht | ht := command_cases h <;> rw [ht]
    · exact ⟨rfl, id⟩
    · exact ⟨rfl, id⟩
    · exact ⟨rfl, fun _ => rfl⟩
    · exact ⟨rfl, id⟩

/-- Settles O44: what an operation turn executes leaves its result and nothing else. -/
theorem operationTurnsArePure : Obligations.OperationTurnsArePure := by
  intro s t p bs ts hs h
  cases hp : p.isCombinational with
  | false => simp [step, fetch, hs, fetchTurn, hp] at h
  | true =>
    cases hd : decode s.cfg p bs with
    | error err => simp [step, fetch, hs, fetchTurn, hp, hd, fetchDecoded] at h
    | instr i =>
      rw [step_operate hs hp hd] at h
      exact operation_cases hp hd h

/-- Settles O45: field by field. -/
theorem resetValues : Obligations.ResetValues := by
  intro cfg s
  have hcnt : ∀ i : Fin 8, s.cnt[i] = 0 := fun i => by fin_cases i <;> rfl
  exact ⟨rfl, rfl, rfl, rfl, hcnt, rfl, rfl, rfl, rfl, rfl, rfl, rfl, rfl, rfl⟩

end Sys2Proof.Machine

/-! Everything a step can do, said once: a turn of the host, the environment or an operation (`AgentMove`), and the
worker's own step, which goes on to another phase (`Advance`), fails (`Failed`), closes, or has nothing left to do.
The invariants and safety claims about every step are derived from these two and do not take a step apart again. -/

namespace Sys2Proof.Machine

/-! ## The turns that are not the worker's -/

/-- What a turn that is not the worker's can do: it leaves every register but the three host flags as it is, it sets
neither `RUN` nor a wait in a terminal phase, and it lifts no wait. A turn that issues a host command takes it off the
queue, and `ESC` and `RUN` change by their own commands only (30_encoding.md R67). -/
structure AgentMove (s t : State) : Prop where
  frame : t = { s with
    esc := t.esc, verbose := t.verbose, run := t.run, hostQ := t.hostQ, hostWaiting := t.hostWaiting
    sched := t.sched, rxq := t.rxq, answers := t.answers, cycleT := t.cycleT, ret := t.ret } := by rfl
  run : s.run = false → t.run = false := by exact id
  keepsWait : s.hostWaiting = true → t.hostWaiting = true := by exact id
  startsWait : t.hostWaiting = true → s.hostWaiting = true ∨ s.phase.isTerminal = false := by exact Or.inl
  sched : ∃ tn, s.sched = tn :: t.sched
  answers : t.answers = s.answers ∨ .transport t.answers ∈ s.sched := by exact Or.inl rfl
  command : t.esc = s.esc ∧ t.run = s.run ∧ t.hostQ = s.hostQ
      ∨ ∃ c, s.sched = .host :: t.sched ∧ s.hostQ = c :: t.hostQ
        ∧ (c ∉ [0b000, 0b001] → t.esc = s.esc) ∧ (c ∉ [0b100, 0b101] → t.run = s.run) := by
    exact Or.inl ⟨rfl, rfl, rfl⟩

/-- What each of the eight host codes does (R67). -/
theorem command_effect {c : BitVec 3} {s t : State} (h : exec (commandOf c) s = .next t) :
    (∃ a, t = { s with esc := a }) ∧ c ∈ [0b000, 0b001] ∨ (∃ a, t = { s with verbose := a }) ∧ c ∈ [0b010, 0b011]
      ∨ t = { s with run := false } ∧ c ∈ [0b100, 0b101]
      ∨ t = { s with hostWaiting := !s.phase.isTerminal } ∧ c ∈ [0b110, 0b111] := by
  have hcodes : ∀ c : BitVec 3,
      (commandOf c = .setEscrowIntent (c.getLsbD 0) ∧ c ∈ [0b000, 0b001])
        ∨ (commandOf c = .setVerbose (c.getLsbD 0) ∧ c ∈ [0b010, 0b011])
        ∨ (commandOf c = .requestStop (c.getLsbD 0) ∧ c ∈ [0b100, 0b101])
        ∨ (commandOf c = .blockUntilStopped (c.getLsbD 0) ∧ c ∈ [0b110, 0b111]) := by decide
  obtain ⟨hc, hmem⟩ | ⟨hc, hmem⟩ | ⟨hc, hmem⟩ | ⟨hc, hmem⟩ := hcodes c <;> rw [hc] at h <;> cases h
  · exact .inl ⟨⟨_, rfl⟩, hmem⟩
  · exact .inr (.inl ⟨⟨_, rfl⟩, hmem⟩)
  · exact .inr (.inr (.inl ⟨rfl, hmem⟩))
  · exact .inr (.inr (.inr ⟨rfl, hmem⟩))

/-- A host command as a move: only BLOCK_UNTIL_STOPPED touches the wait, and only of a host that does not wait. -/
theorem agentMove_of_command {s t : State} {ts : List Turn} {c : BitVec 3} {q : List (BitVec 3)}
    (hs : s.sched = .host :: ts) (hw : s.hostWaiting = false) (hq : s.hostQ = c :: q)
    (h : exec (commandOf c) { s with sched := ts, hostQ := q } = .next t) : AgentMove s t := by
  obtain ⟨⟨a, rfl⟩, hc⟩ | ⟨⟨a, rfl⟩, -⟩ | ⟨rfl, hc⟩ | ⟨rfl, -⟩ := command_effect h
  · exact { sched := ⟨_, hs⟩, command := .inr ⟨c, hs, hq, fun h => absurd hc h, fun _ => rfl⟩ }
  · exact { sched := ⟨_, hs⟩, command := .inr ⟨c, hs, hq, fun _ => rfl, fun _ => rfl⟩ }
  · exact {
      sched := ⟨_, hs⟩
      run := fun _ => rfl
      command := .inr ⟨c, hs, hq, fun _ => rfl, fun h => absurd hc h⟩ }
  · exact {
      sched := ⟨_, hs⟩
      keepsWait := fun h => absurd (hw.symm.trans h) Bool.false_ne_true
      startsWait := fun h => .inr (by simpa using h)
      command := .inr ⟨c, hs, hq, fun _ => rfl, fun _ => rfl⟩ }

/-- A step is the worker's operation, or a move of another agent. -/
theorem step_worker_or_move {s t : State} (h : step s = .next t) :
    (∃ ts, (s.sched = [] ∧ ts = [] ∨ s.sched = .worker :: ts)
        ∧ exec (operationOf s.phase) { s with sched := ts } = .next t)
      ∨ AgentMove s t := by
  obtain ⟨ts, hwork | ⟨hs, -, rfl⟩ | ⟨c, q, hs, hw, hq, hexec⟩ | ⟨bs, hs, rfl⟩ | ⟨a, hs, rfl⟩ | ⟨ms, hs, rfl⟩
    | ⟨p, bs, i, hs, hp, hd, hexec⟩⟩ := step_cases h
  · exact .inl ⟨ts, hwork⟩
  · exact .inr { sched := ⟨_, hs⟩ }
  · exact .inr (agentMove_of_command hs hw hq hexec)
  · exact .inr { sched := ⟨_, hs⟩ }
  · exact .inr { sched := ⟨_, hs⟩, answers := .inr (by simp [hs]) }
  · exact .inr { sched := ⟨_, hs⟩ }
  · rw [operation_cases hp hd hexec]
    exact .inr { sched := ⟨_, hs⟩ }

/-! ## The worker's step -/

/-- The worker goes on from a phase that is not terminal to another such phase: `Cfg`, the flags `RUN` and `VERBOSE`,
`OPEN`, `FATAL` and everything of the host and the environment but the queue are as before, and what is recorded is only
added to. -/
structure Advance (s t : State) : Prop where
  frame : t = { s with
    hs := t.hs, esc := t.esc, last := t.last, cnt := t.cnt, phase := t.phase, mem := t.mem, stateB := t.stateB
    eventB := t.eventB, creditB := t.creditB, status := t.status, escDec := t.escDec, cycleT := t.cycleT, rxq := t.rxq
    txs := t.txs, out := t.out, calls := t.calls } := by rfl
  live : s.phase.isTerminal = false := by simp [Phase.isTerminal, *]
  next : t.phase.isTerminal = false := by rfl
  exit : t.phase = .exit → s.run = false := by nofun
  mem : s.mem.wf = true → t.mem.wf = true := by exact id
  cnt : ∀ i : Fin 8, s.cnt[i] ≤ t.cnt[i] := by exact fun _ => Nat.le_refl _
  cnt0 : t.cnt[0] = s.cnt[0] := by rfl
  txs : s.txs <+: t.txs := by exact List.prefix_rfl
  out : s.out <+: t.out := by exact List.prefix_rfl
  calls : ∃ cs, t.calls = s.calls ++ cs ∧ .close ∉ cs := by exact ⟨[], by simp, by simp⟩

/-- What the transport answers to one operation. -/
def Answers.fails (a : Answers) : TransportOp → Bool
  | .txWrite => a.txWriteFails
  | .rxAvail => a.rxAvailFails
  | .rxRead => a.rxReadFails
  | .close => a.closeFails

/-- An operation of the worker's phase failed and left `u`: only the transport's streams, the record of invocations and
the free values differ from `s`. -/
structure Failed (op : TransportOp) (s u : State) : Prop where
  frame : u = { s with txs := u.txs, calls := u.calls, rxq := u.rxq, draws := u.draws } := by rfl
  phase : s.phase = .s3 ∨ s.phase = .s4 ∨ s.phase = .exit
  answer : s.answers.fails op = true
  txs : s.txs <+: u.txs := by exact List.prefix_rfl
  calls : ∃ cs, u.calls = s.calls ++ cs ∧ cs.count .close = if op = .close then 1 else 0

/-- Everything the worker's step can do: nothing any more, go on, take the fatal path, or close the transport. -/
inductive WorkerStep (s t : State) : Prop where
  | ended (hend : s.phase.isTerminal = true) (ht : t = s)
  | advance (h : Advance s t)
  | fails (op : TransportOp) (u : State) (h : Failed op s u) (ht : t = fatalPath op u)
  | closes (hexit : s.phase = .exit) (ht : t = terminate .stopped { s with calls := s.calls ++ [.close] })

/-- S4 goes on, or fails at its query or its read. -/
theorem drain_cases {s t : State} (hp : s.phase = .s4) (h : exec .s4Drain s = .next t) : WorkerStep s t := by
  rw [exec_s4] at h
  split_ifs at h with ha hq hd hr <;> cases h
  · exact .fails .rxAvail _ { phase := .inr (.inl hp), answer := ha, calls := ⟨[.rxAvail], rfl, rfl⟩ } rfl
  · exact .advance { mem := fun _ => clearRx_wf _, calls := ⟨[.rxAvail], rfl, by simp⟩ }
  · exact .fails .rxRead _ {
      phase := .inr (.inl hp)
      answer := hr
      calls := ⟨[.rxAvail, .rxRead], by simp, rfl⟩ } rfl
  · exact .advance { mem := fun _ => loadRx_wf _ _, calls := ⟨[.rxAvail, .rxRead], by simp, by simp⟩ }

/-- S9 goes on, and no counter but the credited one changes. -/
theorem credit_advances {s t : State} (hp : s.phase = .s9) (h : exec .s9Credit s = .next t) : Advance s t := by
  rw [exec_s9] at h
  split_ifs at h with hgate hfull <;> cases h
  · obtain ⟨hne, -⟩ := hgate
    have hpos : (creditDenomOf s.creditB).val ≠ 0 := fun h => hne (Fin.ext h)
    exact {
      cnt := fun i => by
        simp only [Fin.getElem_fin, Vector.getElem_set]
        split_ifs with hi
        · simp [hi]
        · exact Nat.le_refl _
      cnt0 := Vector.getElem_set_ne (creditDenomOf s.creditB).isLt (by decide) hpos
      out := List.prefix_append _ _ }
  · exact {}

/-- The worker's step, phase by phase. -/
theorem worker_cases {s t : State} (h : exec (operationOf s.phase) s = .next t) : WorkerStep s t := by
  cases hp : s.phase <;> rw [hp, operationOf] at h
  case s0 =>
    rw [exec_s0] at h
    cases h
    exact .advance {
      next := by cases s.run <;> rfl
      exit := by cases hrun : s.run <;> simp }
  case s1 =>
    rw [exec_s1] at h
    cases h
    exact .advance {}
  case s2 =>
    rw [exec_s2] at h
    cases h
    exact .advance {}
  case s3 =>
    rw [exec_s3, writeFrame_eq] at h
    split_ifs at h with hfail <;> cases h
    · exact .fails .txWrite _ {
        phase := .inl hp
        answer := hfail
        txs := List.prefix_append _ _
        calls := ⟨[.txWrite], rfl, rfl⟩ } rfl
    · exact .advance { txs := List.prefix_append _ _, calls := ⟨[.txWrite], rfl, by simp⟩ }
  case s4 => exact drain_cases hp h
  case s5 =>
    cases hparse : parseInboundBytes s.cfg (received s.mem) with
    | tooShort n =>
      rw [exec_s5_of_tooShort hparse] at h
      cases h
      exact .advance { out := List.prefix_append _ _ }
    | frame f =>
      rw [exec_s5_of_frame hparse] at h
      cases h
      exact .advance {}
  case s6 =>
    rw [exec_s6] at h
    cases h
    exact .advance { out := List.prefix_append _ _ }
  case s7 =>
    rw [exec_s7] at h
    split_ifs at h <;> cases h
    · exact .advance { out := List.prefix_append _ _ }
    · exact .advance {}
  case s8 =>
    rw [exec_s8] at h
    cases h
    exact .advance { out := List.prefix_append _ _ }
  case s9 => exact .advance (credit_advances hp h)
  case s10 =>
    rw [exec_s10] at h
    cases h
    exact .advance {}
  case exit =>
    rw [exec_exit] at h
    split_ifs at h with hfail <;> cases h
    · exact .fails .close _ {
        phase := .inr (.inr hp)
        answer := hfail
        calls := ⟨[.close], rfl, rfl⟩ } rfl
    · exact .closes hp rfl
  case stopped =>
    cases h
    exact .ended (by rw [hp]; rfl) rfl
  case faulted =>
    cases h
    exact .ended (by rw [hp]; rfl) rfl

/-- Everything a step can do: another agent's move, or the worker's step after which `ts` is left of the schedule. -/
theorem step_outcomes {s t : State} (h : step s = .next t) :
    AgentMove s t
      ∨ ∃ ts, (s.sched = [] ∧ ts = [] ∨ s.sched = .worker :: ts) ∧ WorkerStep { s with sched := ts } t := by
  obtain ⟨ts, hturn, hexec⟩ | hmove := step_worker_or_move h
  · exact .inr ⟨ts, hturn, worker_cases (s := { s with sched := ts }) hexec⟩
  · exact .inl hmove

end Sys2Proof.Machine

/-! The obligations about every step that follow from `step_outcomes` alone: consistency, the close of the transport,
history, safety, the two ends of a session and the host's wait; and that the agents' turns complete. -/

namespace Sys2Proof.Machine

/-! ## What each kind of step leaves as it is -/

section
variable {s t u : State} {op : TransportOp}

theorem AgentMove.cfg_eq (h : AgentMove s t) : t.cfg = s.cfg := (congrArg State.cfg h.frame :)
theorem AgentMove.hs_eq (h : AgentMove s t) : t.hs = s.hs := (congrArg State.hs h.frame :)
theorem AgentMove.cnt_eq (h : AgentMove s t) : t.cnt = s.cnt := (congrArg State.cnt h.frame :)
theorem AgentMove.phase_eq (h : AgentMove s t) : t.phase = s.phase := (congrArg State.phase h.frame :)
theorem AgentMove.mem_eq (h : AgentMove s t) : t.mem = s.mem := (congrArg State.mem h.frame :)
theorem AgentMove.isOpen_eq (h : AgentMove s t) : t.isOpen = s.isOpen := (congrArg State.isOpen h.frame :)
theorem AgentMove.fatal_eq (h : AgentMove s t) : t.fatal = s.fatal := (congrArg State.fatal h.frame :)
theorem AgentMove.txs_eq (h : AgentMove s t) : t.txs = s.txs := (congrArg State.txs h.frame :)
theorem AgentMove.out_eq (h : AgentMove s t) : t.out = s.out := (congrArg State.out h.frame :)
theorem AgentMove.calls_eq (h : AgentMove s t) : t.calls = s.calls := (congrArg State.calls h.frame :)

theorem Advance.cfg_eq (h : Advance s t) : t.cfg = s.cfg := (congrArg State.cfg h.frame :)
theorem Advance.run_eq (h : Advance s t) : t.run = s.run := (congrArg State.run h.frame :)
theorem Advance.isOpen_eq (h : Advance s t) : t.isOpen = s.isOpen := (congrArg State.isOpen h.frame :)
theorem Advance.fatal_eq (h : Advance s t) : t.fatal = s.fatal := (congrArg State.fatal h.frame :)
theorem Advance.answers_eq (h : Advance s t) : t.answers = s.answers := (congrArg State.answers h.frame :)
theorem Advance.sched_eq (h : Advance s t) : t.sched = s.sched := (congrArg State.sched h.frame :)
theorem Advance.hostWaiting_eq (h : Advance s t) : t.hostWaiting = s.hostWaiting :=
  (congrArg State.hostWaiting h.frame :)

theorem Failed.cfg_eq (h : Failed op s u) : u.cfg = s.cfg := (congrArg State.cfg h.frame :)
theorem Failed.cnt_eq (h : Failed op s u) : u.cnt = s.cnt := (congrArg State.cnt h.frame :)
theorem Failed.mem_eq (h : Failed op s u) : u.mem = s.mem := (congrArg State.mem h.frame :)
theorem Failed.isOpen_eq (h : Failed op s u) : u.isOpen = s.isOpen := (congrArg State.isOpen h.frame :)
theorem Failed.out_eq (h : Failed op s u) : u.out = s.out := (congrArg State.out h.frame :)

end

/-- The three phases in which an operation is invoked are not terminal. -/
theorem Failed.live {op : TransportOp} {s u : State} (h : Failed op s u) : s.phase.isTerminal = false := by
  obtain hp | hp | hp := h.phase <;> rw [hp] <;> rfl

/-- A phase that is not terminal is neither STOPPED nor FAULTED. -/
theorem not_terminal_iff (p : Phase) : p.isTerminal = false ↔ p ≠ .stopped ∧ p ≠ .faulted := by
  cases p <;> simp [Phase.isTerminal]

/-! ## Consistency -/

/-- Other agents keep the relations between the registers: they touch none of these, and a wait starts only in a phase
that has not ended. -/
theorem State.Consistent.of_move {s t : State} (hs : s.Consistent) (h : AgentMove s t) : t.Consistent where
  cfg := h.cfg_eq ▸ hs.cfg
  mem := h.mem_eq ▸ hs.mem
  closed := by rw [h.isOpen_eq, h.phase_eq, hs.closed]
  fault := by rw [h.fatal_eq, h.phase_eq, hs.fault]
  stop hp := h.run (hs.stop (h.phase_eq ▸ hp))
  cnt0 := by simpa only [h.cnt_eq] using hs.cnt0
  host hwait := h.phase_eq ▸ (h.startsWait hwait).elim hs.host id

/-- So does the worker's going on. -/
theorem State.Consistent.of_advance {s t : State} (hs : s.Consistent) (h : Advance s t) : t.Consistent where
  cfg := h.cfg_eq ▸ hs.cfg
  mem := h.mem hs.mem
  closed := by rw [h.isOpen_eq, hs.closed, h.live, h.next]
  fault := by
    obtain ⟨-, hlive⟩ := (not_terminal_iff s.phase).mp h.live
    obtain ⟨-, hnext⟩ := (not_terminal_iff t.phase).mp h.next
    rw [h.fatal_eq, hs.fault, beq_false_of_ne hlive, beq_false_of_ne hnext]
  stop hp := by
    obtain ⟨hnext, -⟩ := (not_terminal_iff t.phase).mp h.next
    exact h.run_eq ▸ h.exit (hp.resolve_right hnext)
  cnt0 := h.cnt0.trans hs.cnt0
  host _ := h.next

/-- The fatal path leads to consistent registers, whatever the phase was. -/
theorem State.Consistent.of_failed {op : TransportOp} {s u : State} (hs : s.Consistent) (h : Failed op s u) :
    (fatalPath op u).Consistent := by
  rw [fatalPath_eq]
  exact {
    cfg := h.cfg_eq ▸ hs.cfg
    mem := h.mem_eq ▸ hs.mem
    closed := rfl
    fault := rfl
    stop := by simp
    cnt0 := by simpa only [h.cnt_eq] using hs.cnt0
    host := nofun }

/-- The schedule is in none of the relations. -/
theorem State.Consistent.withSched {s : State} (hs : s.Consistent) (ts : List Turn) :
    State.Consistent { s with sched := ts } :=
  ⟨hs.cfg, hs.mem, hs.closed, hs.fault, hs.stop, hs.cnt0, hs.host⟩

/-- Every step of the worker keeps the relations between the registers. -/
theorem State.Consistent.of_workerStep {s t : State} (hs : s.Consistent) (h : WorkerStep s t) : t.Consistent := by
  cases h with
  | ended _ ht => exact ht ▸ hs
  | advance h => exact hs.of_advance h
  | fails op u h ht => exact ht ▸ hs.of_failed h
  | closes hexit ht =>
    have hfault : s.fatal.isSome = false := by rw [hs.fault, hexit]; rfl
    rw [ht]
    exact ⟨hs.cfg, hs.mem, rfl, hfault, fun _ => hs.stop (.inl hexit), hs.cnt0, nofun⟩

/-- Settles O48: other agents keep the relations, and so does the worker whatever its step is. -/
theorem everyStepKeepsConsistent : Obligations.EveryStepKeepsConsistent := by
  intro s t hs hstep
  obtain hmove | ⟨ts, -, hwork⟩ := step_outcomes hstep
  · exact hs.of_move hmove
  · exact (hs.withSched ts).of_workerStep hwork

/-- The registers are consistent at reset, whatever the agents are going to do. -/
theorem consistent_reset {cfg : Cfg} (hwf : cfg.wf = true) (sched : List Turn) (hostQ : List (BitVec 3)) (a : Answers)
    (q : List Byte) :
    State.Consistent { State.resetWith cfg with sched := sched, hostQ := hostQ, answers := a, rxq := q } :=
  ⟨hwf, rfl, rfl, rfl, by simp [State.resetWith], rfl, nofun⟩

/-! ## The close of the transport -/

/-- The number of `Close` invocations that goes with `OPEN`. -/
def ClosedOnce (s : State) : Prop := s.calls.count .close = if s.isOpen = true then 0 else 1

/-- The worker's step closes at most once, and only when it ends the session. -/
theorem ClosedOnce.of_workerStep {s t : State} (hs : s.Consistent) (hcount : ClosedOnce s) (h : WorkerStep s t) :
    ClosedOnce t := by
  have hopen (hlive : s.phase.isTerminal = false) : s.calls.count .close = 0 := by
    have h : s.isOpen = true := by rw [hs.closed, hlive]; rfl
    rw [hcount, if_pos h]
  unfold ClosedOnce
  cases h with
  | ended _ ht => exact ht ▸ hcount
  | advance h =>
    obtain ⟨cs, hcalls, hnone⟩ := h.calls
    rw [hcalls, h.isOpen_eq, List.count_append, List.count_eq_zero.mpr hnone]
    exact hcount
  | fails op u h ht =>
    obtain ⟨cs, hcalls, hclose⟩ := h.calls
    rw [ht, fatalPath_eq]
    by_cases hop : op = .close <;> simp [hop, hcalls, hclose, hopen h.live]
  | closes hexit ht => simp [ht, hopen (hexit ▸ rfl)]

/-- Settles O55: consistency says that the transport is open exactly while the session lives. -/
theorem transportIsClosedOnce : Obligations.TransportIsClosedOnce := by
  refine ⟨fun cfg sched hostQ a q hwf => ⟨consistent_reset hwf sched hostQ a q, rfl⟩, ?_⟩
  rintro s t ⟨hs, hcount⟩ hstep
  refine ⟨everyStepKeepsConsistent s t hs hstep, ?_⟩
  obtain hmove | ⟨ts, -, hwork⟩ := step_outcomes hstep
  · rw [hmove.calls_eq, hmove.isOpen_eq]
    exact hcount
  · exact ClosedOnce.of_workerStep (hs.withSched ts) hcount hwork

/-! ## History -/

/-- The worker's step adds to what is recorded and takes nothing away. -/
theorem WorkerStep.grows {s t : State} (h : WorkerStep s t) :
    (∀ i : Fin 8, s.cnt[i] ≤ t.cnt[i]) ∧ t.cnt[0] = s.cnt[0] ∧ s.txs <+: t.txs ∧ s.out <+: t.out
      ∧ s.calls <+: t.calls ∧ t.cfg = s.cfg := by
  cases h with
  | ended _ ht =>
    rw [ht]
    exact ⟨fun _ => Nat.le_refl _, rfl, List.prefix_rfl, List.prefix_rfl, List.prefix_rfl, rfl⟩
  | advance h =>
    obtain ⟨cs, hcalls, -⟩ := h.calls
    exact ⟨h.cnt, h.cnt0, h.txs, h.out, ⟨cs, hcalls.symm⟩, h.cfg_eq⟩
  | fails op u h ht =>
    obtain ⟨cs, hcalls, -⟩ := h.calls
    rw [ht, fatalPath_eq]
    refine ⟨fun i => ?_, ?_, h.txs, ?_, ?_, h.cfg_eq⟩
    · simp only [h.cnt_eq, Nat.le_refl]
    · simp only [h.cnt_eq]
    · simp only [h.out_eq, List.prefix_append]
    · simp only [hcalls, List.append_assoc, List.prefix_append]
  | closes _ ht =>
    rw [ht]
    exact ⟨fun _ => Nat.le_refl _, rfl, List.prefix_rfl, List.prefix_rfl, List.prefix_append _ _, rfl⟩

/-- Settles O56: other agents write no history, and the worker only adds to it. -/
theorem historyOnlyGrows : Obligations.HistoryOnlyGrows := by
  intro s t hstep
  obtain hmove | ⟨ts, -, hwork⟩ := step_outcomes hstep
  · rw [hmove.cnt_eq, hmove.txs_eq, hmove.out_eq, hmove.calls_eq]
    exact ⟨fun _ => Nat.le_refl _, rfl, List.prefix_rfl, List.prefix_rfl, List.prefix_rfl, hmove.cfg_eq⟩
  · exact hwork.grows

/-! ## Safety -/

/-- A reliable transport answers no operation with a failure, now or when its answers change. -/
theorem transportReliable_iff (s : State) :
    s.transportReliable = true ↔
      s.answers = Answers.succeed ∧ ∀ a, .transport a ∈ s.sched → a = Answers.succeed := by
  have hfine (a : Answers) : (!a.txWriteFails && !a.rxAvailFails && !a.rxReadFails && !a.closeFails) = true ↔
      a = Answers.succeed := by
    obtain ⟨w, v, r, c⟩ := a
    simp [Answers.succeed, and_assoc]
  simp only [State.transportReliable, Bool.and_eq_true (_ : Bool) (List.all _ _), hfine, List.all_eq_true]
  refine and_congr_right fun _ => ⟨fun h a ha => (hfine a).mp (h _ ha), fun h tn htn => ?_⟩
  cases tn with
  | transport a => exact (hfine a).mpr (h a htn)
  | _ => rfl

/-- Settles O53: a failing answer is the only way to FAULTED, and only the schedule changes the answers. -/
theorem reliableTransportNeverFaults : Obligations.ReliableTransportNeverFaults := by
  intro s t hsafe hreliable hstep
  obtain ⟨hanswers, hsched⟩ := (transportReliable_iff s).mp hreliable
  rw [transportReliable_iff]
  obtain hmove | ⟨ts, hturn, hwork⟩ := step_outcomes hstep
  · obtain ⟨tn, htn⟩ := hmove.sched
    refine ⟨?_, hmove.answers.elim (·.trans hanswers) (hsched _), fun a ha => hsched a ?_⟩
    · rw [State.safe, hmove.fatal_eq]
      exact hsafe
    · rw [htn]
      exact List.mem_cons_of_mem tn ha
  · have hts : ∀ a, .transport a ∈ ts → a = Answers.succeed := by
      rintro a ha
      obtain ⟨-, rfl⟩ | hs := hturn
      · cases ha
      · exact hsched a (hs ▸ List.mem_cons_of_mem _ ha)
    cases hwork with
    | ended _ ht => exact ht ▸ ⟨hsafe, hanswers, hts⟩
    | advance h =>
      refine ⟨?_, h.answers_eq.trans hanswers, h.sched_eq ▸ hts⟩
      rw [State.safe, h.fatal_eq]
      exact hsafe
    | fails op u h ht =>
      have hfails := h.answer
      simp only [hanswers] at hfails
      cases op <;> cases hfails
    | closes _ ht => exact ht ▸ ⟨hsafe, hanswers, hts⟩

/-! ## The ends of a session -/

/-- Settles O54: from a terminal phase the worker's step is `ended`. -/
theorem endedSessionsStayEnded : Obligations.EndedSessionsStayEnded := by
  refine ⟨fun s => ⟨rfl, rfl⟩, fun s t hend hstep => ?_⟩
  have hlive (h : s.phase.isTerminal = false) : False := Bool.false_ne_true (h.symm.trans hend)
  obtain hmove | ⟨ts, -, hwork⟩ := step_outcomes hstep
  · exact hmove.frame
  · cases hwork with
    | ended _ ht =>
      rw [ht]
    | advance h => exact (hlive h.live).elim
    | fails op u h _ => exact (hlive h.live).elim
    | closes hexit _ => exact (hlive (congrArg Phase.isTerminal hexit)).elim

/-- Settles O38: no other agent lifts a wait, and the worker does so only when it fails or closes. -/
theorem onlyTheWorkerLiftsTheWait : Obligations.OnlyTheWorkerLiftsTheWait := by
  intro s t hwait hstep hlifted
  have hkept (h : t.hostWaiting = true) : False := Bool.false_ne_true (hlifted.symm.trans h)
  obtain hmove | ⟨ts, hturn, hwork⟩ := step_outcomes hstep
  · exact (hkept (hmove.keepsWait hwait)).elim
  · refine ⟨hturn.imp And.left fun h => ⟨ts, h⟩, ?_⟩
    cases hwork with
    | ended _ ht => exact (hkept (ht ▸ hwait)).elim
    | advance h => exact (hkept (h.hostWaiting_eq.trans hwait)).elim
    | fails op u h ht => exact ⟨h.phase, by rw [ht, fatalPath_eq]; rfl⟩
    | closes hexit ht => exact ⟨.inr (.inr hexit), ht ▸ rfl⟩

/-! ## The agents' turns complete -/

/-- The worker's operation completes: a fault needs a full finite counter at S9 or an overrun finite depth at S4. -/
theorem worker_completes {s : State} (hcnt : s.cfg.cntW = none)
    (hdepth : s.phase = .s4 → exceedsDepth s.cfg s.rxq.length = false) :
    ∃ t, exec (operationOf s.phase) s = .next t := by
  cases hp : s.phase with
  | s4 =>
    simp only [operationOf, exec_s4, hdepth hp, Bool.false_eq_true, if_false]
    split_ifs <;> exact ⟨_, rfl⟩
  | s5 =>
    cases hparse : parseInboundBytes s.cfg (received s.mem) with
    | tooShort n => exact ⟨_, exec_s5_of_tooShort hparse⟩
    | frame f => exact ⟨_, exec_s5_of_frame hparse⟩
  | s7 =>
    rw [operationOf, exec_s7]
    split_ifs <;> exact ⟨_, rfl⟩
  | s8 => exact ⟨_, exec_s8 s⟩
  | s9 =>
    have hroom : atMaximum s.cfg s.cnt[creditDenomOf s.creditB] = false := by rw [atMaximum, hcnt]
    simp only [operationOf, exec_s9, hroom, Bool.false_eq_true, if_false]
    split_ifs <;> exact ⟨_, rfl⟩
  | exit =>
    rw [operationOf, exec_exit]
    split_ifs <;> exact ⟨_, rfl⟩
  | _ => exact ⟨_, rfl⟩

/-- A host command completes in every state (R125). -/
theorem command_completes (c : BitVec 3) (s : State) : ∃ t, exec (commandOf c) s = .next t := by
  unfold commandOf
  split <;> exact ⟨_, rfl⟩

/-- A step completes when its turn offers no operation and the worker's operation, if it is the worker's, does. -/
theorem step_completes {s : State} (hoperate : ∀ p bs ts, s.sched ≠ .operate p bs :: ts)
    (hwork : ∀ ts, ∃ t, exec (operationOf s.phase) { s with sched := ts } = .next t) : ∃ t, step s = .next t := by
  cases hs : s.sched with
  | nil =>
    obtain ⟨t, ht⟩ := hwork []
    exact ⟨t, by rw [step_idle s hs, ← ht, ← hs]⟩
  | cons tn ts =>
    cases tn with
    | worker => exact step_worker s ts hs ▸ hwork ts
    | host =>
      by_cases hpass : s.hostWaiting = true ∨ s.hostQ = []
      · exact ⟨_, step_host_passes hs hpass⟩
      · obtain ⟨hw, hne⟩ := not_or.mp hpass
        obtain ⟨c, q, hq⟩ := List.exists_cons_of_ne_nil hne
        exact step_host hs (Bool.eq_false_iff.mpr hw) hq ▸ command_completes c _
    | arrive bs => exact ⟨_, step_arrive s bs ts hs⟩
    | transport a => exact ⟨_, step_transport hs⟩
    | elapse ms => exact ⟨_, step_elapse hs⟩
    | operate p bs => exact absurd hs (hoperate p bs ts)

/-- Settles O43: with unbounded limits neither stuck case of the worker can arise. -/
theorem everyTurnOfTheAgentsCompletes : Obligations.EveryTurnOfTheAgentsCompletes := by
  intro s hcnt hdepth hoperate
  refine step_completes hoperate fun ts => worker_completes (s := { s with sched := ts }) hcnt fun _ => ?_
  exact (exceedsDepth_eq_false_iff _ _).mpr fun d hd => nomatch hdepth.symm.trans hd

end Sys2Proof.Machine

/-! The transmit stream: every step keeps it in whole frames whose handshake bits alternate (42_acceptor_session.md
R100, R103, R115), so every run from reset does. -/

namespace Sys2Proof.Machine

/-! ## The handshake bit of frame `n` -/

/-- The first frame carries `HS_INIT`. -/
@[simp] theorem handshakeOf_zero (cfg : Cfg) : handshakeOf cfg 0 = cfg.hsInit := by simp [handshakeOf]

/-- The next frame's bit is the complement of this one's. -/
theorem handshakeOf_succ (cfg : Cfg) (n : Nat) : handshakeOf cfg (n + 1) = !handshakeOf cfg n := by
  obtain h | h := Nat.mod_two_eq_zero_or_one n
  · have h' : (n + 1) % 2 = 1 := by omega
    simp [handshakeOf, h, h']
  · have h' : (n + 1) % 2 = 0 := by omega
    simp [handshakeOf, h, h']

/-! ## Frames of a stream that grows -/

section
variable {s t : State} {p : List Byte} {n : Nat}

/-- A frame that was complete stays as it is. -/
theorem sentFrame_append_of_le (htxs : t.txs = s.txs ++ p) (hn : 8 * n + 8 ≤ s.txs.length) :
    sentFrame t n = sentFrame s n := by
  rw [sentFrame, sentFrame, htxs, List.drop_append_of_le_length (by omega),
    List.take_append_of_le_length (by rw [List.length_drop]; omega)]

/-- What is appended to whole frames is the next frame's beginning. -/
theorem sentFrame_append_self (htxs : t.txs = s.txs ++ p) (hn : s.txs.length = 8 * n) (hp : p.length ≤ 8) :
    sentFrame t n = p := by
  rw [sentFrame, htxs, ← hn, List.drop_left, List.take_of_length_le hp]

/-- Beyond the stream's end there is nothing. -/
theorem sentFrame_of_length_le (hn : s.txs.length ≤ 8 * n) : sentFrame s n = [] := by
  rw [sentFrame, List.drop_eq_nil_of_le hn, List.take_nil]

end

/-! ## The invariant under one step -/

/-- The invariant reads the phase, the handshake bit, `TXBUF`, the stream and `Cfg` only. -/
theorem State.Framed.congr {s t : State} (hs : s.Framed) (hphase : t.phase = s.phase) (hhs : t.hs = s.hs)
    (htxbuf : t.mem.txbuf = s.mem.txbuf) (htxs : t.txs = s.txs) (hcfg : t.cfg = s.cfg) : t.Framed := by
  have hsent (n : Nat) : sentFrame t n = sentFrame s n := by rw [sentFrame, htxs]; rfl
  exact {
    whole := by rw [hphase, htxs]; exact hs.whole
    hs := by rw [hphase, htxs, hhs, hcfg]; exact hs.hs
    built := by rw [hphase, htxs, htxbuf, hcfg]; exact hs.built
    sent := fun n => by rw [hsent, hcfg]; exact hs.sent n
    complete := fun n => by rw [hsent, htxs, hcfg]; exact hs.complete n }

/-- A phase that sends nothing and does not flip the handshake bit keeps the invariant, when no frame is being built
before or after it. -/
theorem State.Framed.of_quiet {s t : State} (hs : s.Framed) (hfrom : s.phase ≠ .faulted ∧ s.phase ≠ .s3)
    (hto : t.phase ≠ .s2 ∧ t.phase ≠ .s3) (hhs : t.hs = s.hs) (htxs : t.txs = s.txs) (hcfg : t.cfg = s.cfg) :
    t.Framed := by
  obtain ⟨hlive, hfrom3⟩ := hfrom
  obtain ⟨hto2, hto3⟩ := hto
  have hsent (n : Nat) : sentFrame t n = sentFrame s n := by rw [sentFrame, htxs]; rfl
  have hbit := hs.hs hlive
  rw [if_neg hfrom3] at hbit
  exact {
    whole := fun _ => htxs ▸ hs.whole hlive
    hs := fun _ => by rw [if_neg hto3, hhs, htxs, hcfg, hbit]
    built := fun h => (h.elim hto2 hto3).elim
    sent := fun n => by rw [hsent, hcfg]; exact hs.sent n
    complete := fun n => by rw [hsent, htxs, hcfg]; exact hs.complete n }

/-- Appending the next frame, or a beginning of it, keeps what the stream's frames are. -/
theorem State.Framed.frames_append {s t : State} {p : List Byte} {e : Bool} (hs : s.Framed)
    (hlive : s.phase ≠ .faulted) (hcfg : t.cfg = s.cfg) (htxs : t.txs = s.txs ++ p)
    (hp : p <+: (buildOutboundFrame s.cfg (handshakeOf s.cfg (s.txs.length / 8)) e).toList) :
    (∀ n, ∃ e, sentFrame t n <+: (buildOutboundFrame t.cfg (handshakeOf t.cfg n) e).toList)
      ∧ ∀ n, 8 * n + 8 ≤ t.txs.length →
        ∃ e, sentFrame t n = (buildOutboundFrame t.cfg (handshakeOf t.cfg n) e).toList := by
  have hwhole := hs.whole hlive
  have hp8 : p.length ≤ 8 := by simpa using hp.length_le
  have hlen : t.txs.length = s.txs.length + p.length := by rw [htxs, List.length_append]
  rw [hcfg]
  constructor
  · intro n
    obtain hn | hn | hn := Nat.lt_trichotomy n (s.txs.length / 8)
    · rw [sentFrame_append_of_le htxs (by omega)]
      exact hs.sent n
    · rw [sentFrame_append_self htxs (by omega) hp8, hn]
      exact ⟨e, hp⟩
    · rw [sentFrame_of_length_le (by omega)]
      exact ⟨false, List.nil_prefix⟩
  · intro n hn
    obtain hlt | heq : n < s.txs.length / 8 ∨ n = s.txs.length / 8 := by omega
    · rw [sentFrame_append_of_le htxs (by omega)]
      exact hs.complete n (by omega)
    · rw [sentFrame_append_self htxs (by omega) hp8, heq]
      exact ⟨e, hp.eq_of_length (by simp; omega)⟩

/-- S1 builds the next frame. -/
theorem State.Framed.of_s1 {s : State} (hs : s.Framed) (hp : s.phase = .s1) :
    State.Framed { s with mem := loadTx (buildOutboundFrame s.cfg s.hs s.esc) s.mem, phase := .s2 } where
  whole _ := hs.whole (by simp [hp])
  hs _ := by simpa [hp] using hs.hs
  built _ := ⟨s.esc, by simpa [hp] using congrArg (buildOutboundFrame s.cfg · s.esc) (hs.hs (by simp [hp]))⟩
  sent := hs.sent
  complete := hs.complete

/-- S2 flips the handshake bit ahead of the frame that is being sent. -/
theorem State.Framed.of_s2 {s : State} (hs : s.Framed) (hp : s.phase = .s2) :
    State.Framed { s with hs := !s.hs, phase := .s3 } where
  whole _ := hs.whole (by simp [hp])
  hs _ := by
    have hbit := hs.hs (by simp [hp])
    simp only [hp, reduceCtorEq, if_false, Nat.add_zero] at hbit
    simp [handshakeOf_succ, hbit]
  built _ := hs.built (.inl hp)
  sent := hs.sent
  complete := hs.complete

/-- S3 appends the frame that is built, or a beginning of it when the write fails. -/
theorem State.Framed.of_s3 {s : State} (hs : s.Framed) (hp : s.phase = .s3) : (writeFrame s).Framed := by
  have hlive : s.phase ≠ .faulted := by simp [hp]
  obtain ⟨e, hbuilt⟩ := hs.built (.inr hp)
  rw [writeFrame_eq]
  split_ifs
  · rw [fatalPath_eq, hbuilt]
    obtain ⟨hsent, hcomplete⟩ := hs.frames_append (t := { s with
      txs := s.txs ++ (buildOutboundFrame s.cfg (handshakeOf s.cfg (s.txs.length / 8)) e).toList.take
        (Config.failedWritePrefix s.draws) }) hlive rfl rfl (List.take_prefix _ _)
    exact ⟨nofun, nofun, nofun, hsent, hcomplete⟩
  · rw [hbuilt]
    obtain ⟨hsent, hcomplete⟩ := hs.frames_append (t := { s with
      txs := s.txs ++ (buildOutboundFrame s.cfg (handshakeOf s.cfg (s.txs.length / 8)) e).toList })
      hlive rfl rfl List.prefix_rfl
    have hwhole := hs.whole hlive
    have hbit := hs.hs hlive
    rw [if_pos hp] at hbit
    refine ⟨fun _ => ?_, fun _ => ?_, nofun, hsent, hcomplete⟩
    · simp only [List.length_append, Vector.length_toList]
      omega
    · simp only [List.length_append, Vector.length_toList, reduceCtorEq, if_false, Nat.add_zero, hbit]
      congr 1
      omega

/-- The fatal path leaves the stream as it is. -/
theorem State.Framed.of_fatalPath {s : State} (hs : s.Framed) (op : TransportOp) : (fatalPath op s).Framed := by
  rw [fatalPath_eq]
  exact ⟨nofun, nofun, nofun, hs.sent, hs.complete⟩

/-- Every step of the worker keeps the transmit stream in frames. -/
theorem State.Framed.of_worker {s t : State} (hs : s.Framed) (h : exec (operationOf s.phase) s = .next t) :
    t.Framed := by
  cases hp : s.phase <;> rw [hp, operationOf] at h
  case s0 =>
    rw [exec_s0] at h
    cases h
    refine hs.of_quiet (by simp [hp]) ?_ rfl rfl rfl
    cases s.run <;> simp
  case s1 =>
    rw [exec_s1] at h
    cases h
    exact hs.of_s1 hp
  case s2 =>
    rw [exec_s2] at h
    cases h
    exact hs.of_s2 hp
  case s3 =>
    rw [exec_s3] at h
    cases h
    exact hs.of_s3 hp
  case s4 =>
    rw [exec_s4] at h
    split_ifs at h <;> cases h
    · refine .of_fatalPath ?_ _
      exact hs.congr rfl rfl rfl rfl rfl
    · exact hs.of_quiet (by simp [hp]) (by simp) rfl rfl rfl
    · refine .of_fatalPath ?_ _
      exact hs.congr rfl rfl rfl rfl rfl
    · exact hs.of_quiet (by simp [hp]) (by simp) rfl rfl rfl
  case s5 =>
    cases hparse : parseInboundBytes s.cfg (received s.mem) with
    | tooShort n =>
      rw [exec_s5_of_tooShort hparse] at h
      cases h
      exact hs.of_quiet (by simp [hp]) (by simp) rfl rfl rfl
    | frame f =>
      rw [exec_s5_of_frame hparse] at h
      cases h
      exact hs.of_quiet (by simp [hp]) (by simp) rfl rfl rfl
  case s6 =>
    rw [exec_s6] at h
    cases h
    exact hs.of_quiet (by simp [hp]) (by simp) rfl rfl rfl
  case s7 =>
    rw [exec_s7] at h
    split_ifs at h <;> cases h <;> exact hs.of_quiet (by simp [hp]) (by simp) rfl rfl rfl
  case s8 =>
    rw [exec_s8] at h
    cases h
    exact hs.of_quiet (by simp [hp]) (by simp) rfl rfl rfl
  case s9 =>
    rw [exec_s9] at h
    split_ifs at h <;> cases h <;> exact hs.of_quiet (by simp [hp]) (by simp) rfl rfl rfl
  case s10 =>
    rw [exec_s10] at h
    cases h
    exact hs.of_quiet (by simp [hp]) (by simp) rfl rfl rfl
  case exit =>
    rw [exec_exit] at h
    split_ifs at h <;> cases h
    · refine .of_fatalPath ?_ _
      exact hs.congr rfl rfl rfl rfl rfl
    · exact hs.of_quiet (by simp [hp]) (by simp) rfl rfl rfl
  case stopped =>
    cases h
    exact hs
  case faulted =>
    cases h
    exact hs

/-- Settles O49: other agents touch nothing of the stream, and the worker keeps it phase by phase. -/
theorem everyStepKeepsFramed : Obligations.EveryStepKeepsFramed := by
  intro s t hs hstep
  obtain ⟨ts, -, hexec⟩ | hmove := step_worker_or_move hstep
  · have hs' : State.Framed { s with sched := ts } := hs.congr rfl rfl rfl rfl rfl
    exact hs'.of_worker hexec
  · exact hs.congr hmove.phase_eq hmove.hs_eq (congrArg Memory.txbuf hmove.mem_eq) hmove.txs_eq hmove.cfg_eq

/-! ## Runs -/

/-- What every step keeps holds of every state a run reaches. -/
theorem Reaches.keeps {P : State → Prop} (hstep : ∀ s t, P s → step s = .next t → P t) {s t : State}
    (hrun : Reaches s t) (hs : P s) : P t := by
  induction hrun with
  | refl => exact hs
  | tail _ hnext ih => exact hstep _ _ ih hnext

/-- The stream is empty at reset, whatever the agents are going to do. -/
theorem framed_reset (cfg : Cfg) (sched : List Turn) (hostQ : List (BitVec 3)) (a : Answers) (q : List Byte) :
    State.Framed { State.resetWith cfg with sched := sched, hostQ := hostQ, answers := a, rxq := q } where
  whole _ := rfl
  hs _ := by simp [State.resetWith]
  built := nofun
  sent n := ⟨false, by simp [sentFrame, State.resetWith]⟩
  complete n hn := absurd hn (by simp [State.resetWith])

/-- Settles O47: both invariants at reset. -/
theorem resetIsConsistentAndFramed : Obligations.ResetIsConsistentAndFramed := fun cfg sched hostQ a q hwf =>
  ⟨consistent_reset hwf sched hostQ a q, framed_reset cfg sched hostQ a q⟩

/-- In a framed stream, the third byte of frame `n` carries the frame's handshake bit. -/
theorem State.Framed.handshake_getElem? {s : State} (hs : s.Framed) (hwf : s.cfg.wf = true) {n : Nat} {b : Byte}
    (hb : s.txs[8 * n + 2]? = some b) : b.getLsbD 0 = handshakeOf s.cfg n := by
  obtain ⟨hcmd, -⟩ := s.cfg.wf_iff.mp hwf
  obtain ⟨e, rest, hrest⟩ := hs.sent n
  have hframe : (sentFrame s n)[2]? = some b := by simp [sentFrame, hb]
  have hbyte : (buildOutboundFrame s.cfg (handshakeOf s.cfg n) e).toList[2]? = some b := by
    obtain ⟨hlt, -⟩ := List.getElem?_eq_some_iff.mp hframe
    rw [← hrest, List.getElem?_append_left hlt, hframe]
  have hb' : s.cfg.cmdPattern ||| bitAt (handshakeOf s.cfg n) hsMask = b := Option.some.inj hbyte
  rw [← hb', ← hasBit_twoPow _ (by decide), ← hsMask_eq_twoPow, hasBit_or_bitAt hcmd (by decide)]

/-- Settles O50: the stream is framed and `Cfg` is the session's in every state a run from reset reaches. -/
theorem handshakeAlternatesInEveryRun : Obligations.HandshakeAlternatesInEveryRun := by
  intro cfg sched hostQ a q t hwf hrun n b hb
  have hkeeps (s t : State) (hs : s.Framed ∧ s.cfg = cfg) (hstep : step s = .next t) : t.Framed ∧ t.cfg = cfg := by
    obtain ⟨hframed, hcfg⟩ := hs
    obtain ⟨-, -, -, -, -, hsame⟩ := historyOnlyGrows s t hstep
    exact ⟨everyStepKeepsFramed s t hframed hstep, hsame.trans hcfg⟩
  obtain ⟨hframed, rfl⟩ := hrun.keeps hkeeps ⟨framed_reset cfg sched hostQ a q, rfl⟩
  exact hframed.handshake_getElem? hwf hb

end Sys2Proof.Machine

/-! Noninterference: nothing depends on a duration (70_reset_and_hazards.md R175), `VERBOSE` changes the trace only
(60_exceptions.md R153), and `RUN` is read at S0 only (R147). Each is about a projection that forgets what must not
matter: steps from a state and from its projection have the same projection. -/

namespace Sys2Proof.Machine

/-! ## Outcomes up to a projection -/

/-- An outcome with its next state projected. -/
def onNext (f : State → State) : Host.Outcome State Fault Refusal → Host.Outcome State Fault Refusal
  | .next s => .next (f s)
  | .fault r => .fault r
  | .refused r => .refused r

@[simp] theorem onNext_next (f : State → State) (s : State) : onNext f (.next s) = .next (f s) := rfl
@[simp] theorem onNext_fault (f : State → State) (r : Fault) : onNext f (.fault r) = .fault r := rfl
@[simp] theorem onNext_refused (f : State → State) (r : Refusal) : onNext f (.refused r) = .refused r := rfl

/-- Outcomes that agree up to a projection are of the same kind, with next states that agree up to it. -/
theorem agree_of_onNext_eq {f : State → State} {o o' : Host.Outcome State Fault Refusal}
    (h : onNext f o = onNext f o') :
    (∀ t, o = .next t → ∃ t', o' = .next t' ∧ f t = f t') ∧ (∀ r, o = .fault r → o' = .fault r)
      ∧ ∀ r, o = .refused r → o' = .refused r := by
  cases o <;> cases o' <;> simp_all

/-- A projection that no step sees through: it keeps what a turn reads to choose its operation, it passes through what
the turns themselves write, and no operation's result depends on what it drops. -/
structure Forgets (f : State → State) : Prop where
  idem : ∀ s, f (f s) = f s := by exact fun _ => rfl
  phase : ∀ s, (f s).phase = s.phase := by exact fun _ => rfl
  sched : ∀ s, (f s).sched = s.sched := by exact fun _ => rfl
  hostQ : ∀ s, (f s).hostQ = s.hostQ := by exact fun _ => rfl
  hostWaiting : ∀ s, (f s).hostWaiting = s.hostWaiting := by exact fun _ => rfl
  decode : ∀ s p bs, decode (f s).cfg p bs = decode s.cfg p bs := by exact fun _ _ _ => rfl
  turn : ∀ (s : State) ts, { f s with sched := ts } = f { s with sched := ts } := by exact fun _ _ => rfl
  command : ∀ (s : State) ts q, { f s with sched := ts, hostQ := q } = f { s with sched := ts, hostQ := q } := by
    exact fun _ _ _ => rfl
  arrive : ∀ (s : State) ts bs,
    { f s with sched := ts, rxq := (f s).rxq ++ bs } = f { s with sched := ts, rxq := s.rxq ++ bs } := by
    exact fun _ _ _ => rfl
  transport : ∀ (s : State) ts a, { f s with sched := ts, answers := a } = f { s with sched := ts, answers := a } := by
    exact fun _ _ _ => rfl
  elapse : ∀ (s : State) ts ms, f { f s with sched := ts, cycleT := (f s).cycleT + ms }
    = f { s with sched := ts, cycleT := s.cycleT + ms } := by exact fun _ _ _ => rfl
  exec : ∀ i s, onNext f (exec i (f s)) = onNext f (exec i s)

/-- A step from a state's projection comes to the same as one from the state, turn by turn. -/
theorem Forgets.onNext_step_project {f : State → State} (hf : Forgets f) (s : State) :
    onNext f (step (f s)) = onNext f (step s) := by
  cases hs : s.sched with
  | nil =>
    rw [step_idle s hs, step_idle (f s) ((hf.sched s).trans hs), hf.phase]
    exact hf.exec _ s
  | cons tn ts =>
    have hs' : (f s).sched = tn :: ts := (hf.sched s).trans hs
    cases tn with
    | worker =>
      rw [step_worker s ts hs, step_worker (f s) ts hs', hf.turn, hf.phase]
      exact hf.exec _ _
    | host =>
      by_cases hpass : s.hostWaiting = true ∨ s.hostQ = []
      · have hpass' : (f s).hostWaiting = true ∨ (f s).hostQ = [] := by rwa [hf.hostWaiting, hf.hostQ]
        rw [step_host_passes hs hpass, step_host_passes hs' hpass', hf.turn, onNext_next, onNext_next, hf.idem]
      · obtain ⟨hw, hne⟩ := not_or.mp hpass
        obtain ⟨c, q, hq⟩ := List.exists_cons_of_ne_nil hne
        have hw : s.hostWaiting = false := Bool.eq_false_iff.mpr hw
        rw [step_host hs hw hq, step_host hs' ((hf.hostWaiting s).trans hw) ((hf.hostQ s).trans hq), hf.command]
        exact hf.exec _ _
    | arrive bs =>
      rw [step_arrive s bs ts hs, step_arrive (f s) bs ts hs', hf.arrive, onNext_next, onNext_next, hf.idem]
    | transport a =>
      rw [step_transport hs, step_transport hs', hf.transport, onNext_next, onNext_next, hf.idem]
    | elapse ms =>
      rw [step_elapse hs, step_elapse hs', onNext_next, onNext_next, hf.elapse]
    | operate p bs =>
      cases hp : p.isCombinational with
      | false => simp [step, fetch, hs, hs', fetchTurn, hp]
      | true =>
        cases hd : Sys2Proof.decode s.cfg p bs with
        | error err => simp [step, fetch, hs, hs', fetchTurn, hp, hf.decode, hd, fetchDecoded]
        | instr i =>
          rw [step_operate hs hp hd, step_operate hs' hp ((hf.decode s p bs).trans hd), hf.turn]
          exact hf.exec _ _

/-- States with the same projection take steps with the same outcome up to it. -/
theorem Forgets.onNext_step {f : State → State} (hf : Forgets f) {s s' : State} (h : f s = f s') :
    onNext f (step s) = onNext f (step s') := by
  rw [← hf.onNext_step_project s, h, hf.onNext_step_project s']

/-! ## Time -/

/-- The state without the elapsed time and the two durations. -/
def untimed (s : State) : State :=
  { s with cycleT := 0, cfg := { s.cfg with tTurnaround := 0, tPoll := 0 } }

/-- No decoder reads a duration. -/
theorem decode_untimed (s : State) (p : Port) (bs : List Byte) : decode (untimed s).cfg p bs = decode s.cfg p bs := by
  cases p <;> rfl

/-- S3 does not depend on a duration: the turnaround shows in the elapsed time alone. -/
theorem exec_s3_untimed (s : State) :
    onNext untimed (exec .s3WriteWait (untimed s)) = onNext untimed (exec .s3WriteWait s) := by
  simp only [exec_s3, writeFrame_eq, fatalPath_eq, apply_ite Host.Outcome.next, apply_ite (onNext untimed)]
  rfl

/-- No operation's result depends on a duration: each takes the same branch and writes the same values. -/
theorem exec_untimed (i : Instr) (s : State) :
    onNext untimed (exec i (untimed s)) = onNext untimed (exec i s) := by
  cases i with
  | poll h e c => exact exec_s3_untimed { s with mem := loadTx (outboundFrame s.cfg h e c) s.mem }
  | checksum f =>
    simp only [exec, execChecksum, apply_ite (onNext untimed)]
    rfl
  | s3WriteWait => exact exec_s3_untimed s
  | s4Drain =>
    simp only [exec_s4, fatalPath_eq, apply_ite (onNext untimed)]
    rfl
  | s5Parse =>
    cases hparse : parseInboundBytes s.cfg (received s.mem) with
    | tooShort n =>
      rw [exec_s5_of_tooShort hparse, exec_s5_of_tooShort (s := untimed s) hparse]
      rfl
    | frame f =>
      rw [exec_s5_of_frame hparse, exec_s5_of_frame (s := untimed s) hparse]
      rfl
  | s6Interpret =>
    simp only [exec_s6]
    rfl
  | s7ChangeDetect =>
    simp only [exec_s7, apply_ite (onNext untimed)]
    rfl
  | s8Trace =>
    simp only [exec_s8]
    rfl
  | s9Credit =>
    simp only [exec_s9, apply_ite (onNext untimed)]
    rfl
  | exitClose =>
    simp only [exec_exit, fatalPath_eq, apply_ite (onNext untimed)]
    rfl
  | _ => rfl

/-- Settles O58: no step sees through `untimed`. -/
theorem nothingDependsOnTime : Obligations.NothingDependsOnTime := by
  intro s s' h
  have hforgets : Forgets untimed := { decode := decode_untimed, exec := exec_untimed }
  exact agree_of_onNext_eq (hforgets.onNext_step h)

/-! ## The trace -/

/-- Whether an event is a `Trace`. -/
def isTrace : Event → Bool
  | .diagnostic (.trace _) => true
  | _ => false

/-- The events that are no trace. -/
def visible (out : List Event) : List Event := out.filter fun e => !isTrace e

/-- The state without `VERBOSE` and without the trace events. -/
def blind (s : State) : State := { s with verbose := false, out := visible s.out }

/-- Nothing more is dropped the second time. -/
theorem visible_visible (out : List Event) : visible (visible out) = visible out := by simp [visible]

/-- Traces are dropped piece by piece. -/
theorem visible_append (out es : List Event) : visible (out ++ es) = visible out ++ visible es := by simp [visible]

/-- Nothing more is forgotten the second time. -/
theorem blind_blind (s : State) : blind (blind s) = blind s := by simp [blind, visible_visible]

/-- An operation that a projection passes through is one that it does not see through. -/
theorem onNext_of_comm {f : State → State} (hidem : ∀ s, f (f s) = f s) {o o' : Host.Outcome State Fault Refusal}
    (h : o' = onNext f o) : onNext f o' = onNext f o := by
  rw [h]
  cases o <;> simp [hidem]

/-- S3 emits nothing but `Fatal`. -/
theorem exec_s3_blind (s : State) : exec .s3WriteWait (blind s) = onNext blind (exec .s3WriteWait s) := by
  simp only [exec_s3, writeFrame_eq, fatalPath_eq, apply_ite Host.Outcome.next, apply_ite (onNext blind), onNext_next,
    blind, visible_append]
  rfl

/-- S8 is the only reader of `VERBOSE`, and what it adds is a trace. -/
theorem exec_s8_blind (s : State) :
    onNext blind (exec .s8Trace (blind s)) = onNext blind (exec .s8Trace s) := by
  have htrace : visible (if s.verbose then [.diagnostic (.trace (received s.mem))] else []) = [] := by
    cases s.verbose <;> rfl
  simp only [exec_s8, onNext_next, blind, visible_append, visible_visible, htrace]
  rfl

/-- No operation lets `VERBOSE` or a trace event change anything else. -/
theorem exec_blind (i : Instr) (s : State) : onNext blind (exec i (blind s)) = onNext blind (exec i s) := by
  cases i with
  | poll h e c =>
    exact onNext_of_comm blind_blind (exec_s3_blind { s with mem := loadTx (outboundFrame s.cfg h e c) s.mem })
  | checksum f =>
    refine onNext_of_comm blind_blind ?_
    simp only [exec, execChecksum, apply_ite (onNext blind)]
    rfl
  | s3WriteWait => exact onNext_of_comm blind_blind (exec_s3_blind s)
  | s4Drain =>
    refine onNext_of_comm blind_blind ?_
    simp only [exec_s4, fatalPath_eq, apply_ite (onNext blind), onNext_next, blind, visible_append]
    rfl
  | s5Parse =>
    refine onNext_of_comm blind_blind ?_
    cases hparse : parseInboundBytes s.cfg (received s.mem) with
    | tooShort n =>
      rw [exec_s5_of_tooShort hparse, exec_s5_of_tooShort (s := blind s) hparse]
      simp only [onNext_next, blind, visible_append]
      rfl
    | frame f =>
      rw [exec_s5_of_frame hparse, exec_s5_of_frame (s := blind s) hparse]
      rfl
  | s6Interpret =>
    refine onNext_of_comm blind_blind ?_
    have hdiag : visible (if s.stateB ∈ s.cfg.codes.all then [] else [.diagnostic (.unknownPrimaryState s.stateB)])
        = if s.stateB ∈ s.cfg.codes.all then [] else [.diagnostic (.unknownPrimaryState s.stateB)] := by
      split_ifs <;> rfl
    simp only [exec_s6, onNext_next, blind, visible_append, hdiag]
  | s7ChangeDetect =>
    refine onNext_of_comm blind_blind ?_
    simp only [exec_s7, apply_ite (onNext blind), onNext_next, blind, visible_append]
    rfl
  | s8Trace => exact exec_s8_blind s
  | s9Credit =>
    refine onNext_of_comm blind_blind ?_
    simp only [exec_s9, apply_ite (onNext blind), onNext_next, blind, visible_append]
    rfl
  | exitClose =>
    refine onNext_of_comm blind_blind ?_
    simp only [exec_exit, fatalPath_eq, apply_ite (onNext blind), onNext_next, blind, visible_append]
    rfl
  | setVerbose a => simp [blind, visible_visible]
  | _ => exact onNext_of_comm blind_blind rfl

/-- Settles O59: no step sees through `blind`. -/
theorem verboseChangesOnlyTheTrace : Obligations.VerboseChangesOnlyTheTrace := by
  intro s s' h
  have hforgets : Forgets blind := {
    idem := blind_blind
    elapse := fun s ts ms => blind_blind { s with sched := ts, cycleT := s.cycleT + ms }
    exec := exec_blind }
  exact agree_of_onNext_eq (hforgets.onNext_step h)

/-! ## A pending stop -/

/-- `RUN` set to a value. -/
def withRun (b : Bool) (s : State) : State := { s with run := b }

/-- Outside S0 the worker's operation passes `RUN` on as it finds it. -/
theorem exec_withRun (b : Bool) {s : State} (hp : s.phase ≠ .s0) :
    exec (operationOf s.phase) (withRun b s) = onNext (withRun b) (exec (operationOf s.phase) s) := by
  cases hphase : s.phase with
  | s0 => exact absurd hphase hp
  | s3 =>
    simp only [operationOf, exec_s3, writeFrame_eq, fatalPath_eq, apply_ite Host.Outcome.next,
      apply_ite (onNext (withRun b))]
    rfl
  | s4 =>
    simp only [operationOf, exec_s4, fatalPath_eq, apply_ite (onNext (withRun b))]
    rfl
  | s5 =>
    cases hparse : parseInboundBytes s.cfg (received s.mem) with
    | tooShort n =>
      rw [operationOf, exec_s5_of_tooShort hparse, exec_s5_of_tooShort (s := withRun b s) hparse]
      rfl
    | frame f =>
      rw [operationOf, exec_s5_of_frame hparse, exec_s5_of_frame (s := withRun b s) hparse]
      rfl
  | s6 =>
    simp only [operationOf, exec_s6]
    rfl
  | s7 =>
    simp only [operationOf, exec_s7, apply_ite (onNext (withRun b))]
    rfl
  | s8 =>
    simp only [operationOf, exec_s8]
    rfl
  | s9 =>
    simp only [operationOf, exec_s9, apply_ite (onNext (withRun b))]
    rfl
  | exit =>
    simp only [operationOf, exec_exit, fatalPath_eq, apply_ite (onNext (withRun b))]
    rfl
  | _ => rfl

/-- Settles O57: with nothing scheduled the step is the worker's operation, which is not S0. -/
theorem stopIsSeenOnlyAtS0 : Obligations.StopIsSeenOnlyAtS0 := by
  intro s b hs hp
  have hstep : step (withRun b s) = onNext (withRun b) (step s) := by
    rw [step_idle s hs, step_idle (withRun b s) hs]
    exact exec_withRun b hp
  refine ⟨fun t ht => ?_, fun r hr => ?_, fun r hr => ?_⟩
  · exact hstep.trans (by rw [ht]; rfl)
  · exact hstep.trans (by rw [hr]; rfl)
  · exact hstep.trans (by rw [hr]; rfl)

end Sys2Proof.Machine

/-! Runs of the worker alone (42_acceptor_session.md R100, R114, R116, 70_reset_and_hazards.md R163): what each phase
leaves behind as a function of the state, the sending half of a cycle and the interpreting phases as their compositions,
and the whole cycle as the function CYCLE. -/

namespace Sys2Proof.Machine

/-! ## What a phase leaves behind -/

/-- After S0 with `RUN` = 1. -/
def afterS0 (s : State) : State := { s with cycleT := 0, phase := .s1 }

/-- After S1. -/
def afterS1 (s : State) : State :=
  { s with mem := loadTx (buildOutboundFrame s.cfg s.hs s.esc) s.mem, phase := .s2 }

/-- After S2. -/
def afterS2 (s : State) : State := { s with hs := !s.hs, phase := .s3 }

/-- After S3, when the write succeeds. -/
def afterS3 (s : State) : State :=
  { s with
    calls := s.calls ++ [.txWrite]
    txs := s.txs ++ s.mem.txbuf.toList
    cycleT := s.cycleT + s.cfg.tTurnaround
    phase := .s4 }

/-- After S4 on an empty queue. -/
def afterS4Empty (s : State) : State :=
  { s with calls := s.calls ++ [.rxAvail], mem := clearRx s.mem, phase := .s10 }

/-- After S4 when the queue is read. -/
def afterS4Read (s : State) : State :=
  { s with calls := s.calls ++ [.rxAvail, .rxRead], rxq := [], mem := loadRx s.rxq s.mem, phase := .s5 }

/-- After S5 on a short buffer. -/
def afterS5Short (s : State) : State :=
  { s with out := s.out ++ [.diagnostic (.frameTooShort (received s.mem).length)], phase := .s10 }

/-- After S5 on a buffer with the three offsets. -/
def afterS5 (s : State) : State :=
  { s with
    stateB := (received s.mem).getD s.cfg.stateOff 0
    eventB := (received s.mem).getD s.cfg.eventOff 0
    creditB := (received s.mem).getD creditOff 0
    phase := .s6 }

/-- After S6. -/
def afterS6 (s : State) : State :=
  { s with
    out := s.out ++ (if labelOf s.cfg s.stateB == .unknown then [.diagnostic (.unknownPrimaryState s.stateB)] else [])
    status := describeStatus s.cfg s.stateB s.eventB
    escDec := escrowBit s.stateB
    esc := escrowBit s.stateB
    phase := .s7 }

/-- After S7. -/
def afterS7 (s : State) : State :=
  { s with
    out := s.out ++ (if statusChanged s.cfg s.last s.status then [.statusChange s.status] else [])
    last := if statusChanged s.cfg s.last s.status then some s.status else s.last
    phase := .s8 }

/-- After S8. -/
def afterS8 (s : State) : State :=
  { s with out := s.out ++ (if s.verbose then [.diagnostic (.trace (received s.mem))] else []), phase := .s9 }

/-- Whether S9 counts: a non-zero denomination in an accepting-class state (R110). -/
def countsCredit (s : State) : Bool := creditDenomOf s.creditB != 0 && acceptBit s.stateB

/-- The counters after S9. -/
def countsAfter (s : State) : Vector Nat 8 :=
  if countsCredit s then s.cnt.set (creditDenomOf s.creditB) (s.cnt[creditDenomOf s.creditB] + 1) else s.cnt

/-- After S9 without a finite counter. -/
def afterS9 (s : State) : State :=
  { s with
    cnt := countsAfter s
    out := s.out ++ (if countsCredit s then [.billCredited (creditDenomOf s.creditB) (countsAfter s)] else [])
    phase := .s10 }

/-- After S10. -/
def afterS10 (s : State) : State := { s with cycleT := max s.cycleT s.cfg.tPoll, phase := .s0 }

/-! ## These are what the phases leave behind -/

/-- S0 with `RUN` = 1 (R101). -/
theorem exec_s0_of_run {s : State} (h : s.run = true) : exec .s0TestRun s = .next (afterS0 s) := by
  simp [exec_s0, h, afterS0]

/-- A buffer that is long enough is parsed to the bytes at its three offsets (R84). -/
theorem parseInboundBytes_of_le {cfg : Cfg} (hwf : cfg.wf = true) {b : List Byte} (h : minRxLen ≤ b.length) :
    parseInboundBytes cfg b = .frame ⟨b.getD cfg.stateOff 0, b.getD cfg.eventOff 0, b.getD creditOff 0⟩ := by
  obtain ⟨hst, hev⟩ := Cfg.offsets_lt_of_wf hwf
  have at_offset {i : Nat} (hi : i < minRxLen) : b[i]? = some (b.getD i 0) := by
    have hlt : i < b.length := Nat.lt_of_lt_of_le hi h
    rw [List.getElem?_eq_getElem hlt, List.getD_eq_getElem _ _ hlt]
  exact parseInboundBytes_of_getElem? h (at_offset hst) (at_offset hev) (at_offset (by decide))

/-- S5 on a buffer of fewer than six bytes (R106, R141). -/
theorem exec_s5_of_lt {s : State} (h : (received s.mem).length < minRxLen) :
    exec .s5Parse s = .next (afterS5Short s) :=
  exec_s5_of_tooShort (parseInboundBytes_of_lt h)

/-- S5 on a buffer of six bytes or more (R106). -/
theorem exec_s5_of_le {s : State} (hwf : s.cfg.wf = true) (h : minRxLen ≤ (received s.mem).length) :
    exec .s5Parse s = .next (afterS5 s) :=
  exec_s5_of_frame (parseInboundBytes_of_le hwf h)

/-- S6 (R107). -/
theorem exec_s6_eq (s : State) : exec .s6Interpret s = .next (afterS6 s) := by
  have hdiag : (if s.stateB ∈ s.cfg.codes.all then [] else [Event.diagnostic (.unknownPrimaryState s.stateB)])
      = if labelOf s.cfg s.stateB == .unknown then [.diagnostic (.unknownPrimaryState s.stateB)] else [] := by
    simp only [beq_iff_eq, labelOf_eq_unknown_iff, ite_not]
  rw [exec_s6, hdiag, afterS6]

/-- S7 (R108). -/
theorem exec_s7_eq (s : State) : exec .s7ChangeDetect s = .next (afterS7 s) := by
  rw [exec_s7, afterS7]
  cases statusChanged s.cfg s.last s.status <;> simp

/-- S9 without a finite counter (R110). -/
theorem exec_s9_of_unbounded {s : State} (hcnt : s.cfg.cntW = none) : exec .s9Credit s = .next (afterS9 s) := by
  have hroom : atMaximum s.cfg s.cnt[creditDenomOf s.creditB] = false := by rw [atMaximum, hcnt]
  have hgate : countsCredit s = true ↔ creditDenomOf s.creditB ≠ 0 ∧ acceptBit s.stateB = true := by
    simp [countsCredit]
  rw [exec_s9, hroom, afterS9]
  by_cases h : countsCredit s = true
  · simp [hgate.mp h, countsAfter, h]
  · rw [if_neg (hgate.not.mp h)]
    simp [countsAfter, h]

/-! ## Several steps -/

/-- A run begins with its first step. -/
theorem steps_succ_of_next {s t : State} (h : step s = .next t) (n : Nat) : steps (n + 1) s = steps n t := by
  have h' : Sys2Proof.core.step s = .next t := h
  simp only [steps, Host.Core.run, h']
  rfl

/-- With nothing scheduled, a run begins with the worker's operation. -/
theorem steps_succ_of_idle {s t : State} {p : Phase} (hs : s.sched = []) (hp : s.phase = p)
    (h : exec (operationOf p) s = .next t) (n : Nat) : steps (n + 1) s = steps n t :=
  steps_succ_of_next (by rw [step_idle s hs, hp, h]) n

/-- From S10 the worker's next step starts a new cycle. -/
theorem steps_sleep {s : State} (hs : s.sched = []) (hp : s.phase = .s10) (n : Nat) :
    steps (n + 1) s = steps n (afterS10 s) :=
  steps_succ_of_idle hs hp (exec_s10 s) n

/-- The state at S4, after a frame was built and sent. -/
def afterSend (s : State) : State :=
  { s with
    cycleT := 0 + s.cfg.tTurnaround
    mem := loadTx (buildOutboundFrame s.cfg s.hs s.esc) s.mem
    hs := !s.hs
    calls := s.calls ++ [.txWrite]
    txs := s.txs ++ (buildOutboundFrame s.cfg s.hs s.esc).toList
    phase := .s4 }

/-- From S0 with `RUN` = 1, the worker's next four steps send one frame. -/
theorem steps_send {s : State} (hs : s.sched = []) (hp : s.phase = .s0) (hrun : s.run = true)
    (hok : s.answers.txWriteFails = false) (n : Nat) : steps (n + 4) s = steps n (afterSend s) :=
  calc steps (n + 4) s
    _ = steps (n + 3) (afterS0 s) := steps_succ_of_idle hs hp (exec_s0_of_run hrun) _
    _ = steps (n + 2) (afterS1 (afterS0 s)) := steps_succ_of_idle (s := afterS0 s) hs rfl (exec_s1 _) _
    _ = steps (n + 1) (afterS2 (afterS1 (afterS0 s))) :=
      steps_succ_of_idle (s := afterS1 (afterS0 s)) hs rfl (exec_s2 _) _
    _ = steps n (afterSend s) :=
      steps_succ_of_idle (s := afterS2 (afterS1 (afterS0 s))) hs rfl (exec_s3_of_success hok) _

/-- What S6 to S9 emit for the three latches: the diagnostic, the change, the trace and the credit, in that order. -/
def reportEvents (s : State) : List Event :=
  let st := describeStatus s.cfg s.stateB s.eventB
  (if labelOf s.cfg s.stateB == .unknown then [.diagnostic (.unknownPrimaryState s.stateB)] else [])
    ++ (if statusChanged s.cfg s.last st then [.statusChange st] else [])
    ++ (if s.verbose then [.diagnostic (.trace (received s.mem))] else [])
    ++ (if countsCredit s then [.billCredited (creditDenomOf s.creditB) (countsAfter s)] else [])

/-- The state at S10, after the three latches were interpreted, reported and counted. -/
def afterReport (s : State) : State :=
  let st := describeStatus s.cfg s.stateB s.eventB
  { s with
    status := st
    escDec := escrowBit s.stateB
    esc := escrowBit s.stateB
    last := if statusChanged s.cfg s.last st then some st else s.last
    cnt := countsAfter s
    out := s.out ++ reportEvents s
    phase := .s10 }

/-- S6 to S9 one after the other. -/
theorem afterS9_afterS8_afterS7_afterS6 (s : State) :
    afterS9 (afterS8 (afterS7 (afterS6 s))) = afterReport s := by
  simp only [afterS9, afterS8, afterS7, afterS6, afterReport, reportEvents, List.append_assoc]
  rfl

/-- From S6, the worker's next four steps interpret, report and count. -/
theorem steps_report {s : State} (hs : s.sched = []) (hp : s.phase = .s6) (hcnt : s.cfg.cntW = none) (n : Nat) :
    steps (n + 4) s = steps n (afterReport s) :=
  calc steps (n + 4) s
    _ = steps (n + 3) (afterS6 s) := steps_succ_of_idle hs hp (exec_s6_eq s) _
    _ = steps (n + 2) (afterS7 (afterS6 s)) := steps_succ_of_idle (s := afterS6 s) hs rfl (exec_s7_eq _) _
    _ = steps (n + 1) (afterS8 (afterS7 (afterS6 s))) :=
      steps_succ_of_idle (s := afterS7 (afterS6 s)) hs rfl (exec_s8 _) _
    _ = steps n (afterS9 (afterS8 (afterS7 (afterS6 s)))) :=
      steps_succ_of_idle (s := afterS8 (afterS7 (afterS6 s))) hs rfl (exec_s9_of_unbounded hcnt) _
    _ = steps n (afterReport s) := by rw [afterS9_afterS8_afterS7_afterS6]

/-- Settles O46: the frame is sent whatever the queue holds, since the sending half reads nothing. -/
theorem firstCycleSendsTheFirstFrame : Obligations.FirstCycleSendsTheFirstFrame := by
  intro cfg q
  refine ⟨afterSend { State.resetWith cfg with rxq := q }, _, steps_send rfl rfl rfl rfl 0,
    exec_buildOutbound cfg.hsInit false (State.resetWith cfg), rfl, rfl, rfl, ?_⟩
  rintro rfl
  change (buildOutboundFrame Cfg.default false false).toList = _
  decide

/-- From S6 with `RUN` = 1, the worker's next seven steps build the next frame. -/
theorem steps_report_to_build {s : State} (hs : s.sched = []) (hp : s.phase = .s6) (hcnt : s.cfg.cntW = none)
    (hrun : s.run = true) (n : Nat) :
    steps (n + 7) s = steps n (afterS1 (afterS0 (afterS10 (afterReport s)))) :=
  calc steps (n + 7) s
    _ = steps (n + 3) (afterReport s) := steps_report hs hp hcnt _
    _ = steps (n + 2) (afterS10 (afterReport s)) := steps_sleep (s := afterReport s) hs rfl _
    _ = steps (n + 1) (afterS0 (afterS10 (afterReport s))) :=
      steps_succ_of_idle (s := afterS10 (afterReport s)) hs rfl (exec_s0_of_run hrun) _
    _ = steps n (afterS1 (afterS0 (afterS10 (afterReport s)))) :=
      steps_succ_of_idle (s := afterS0 (afterS10 (afterReport s))) hs rfl (exec_s1 _) _

/-- Settles O52: S6 leaves the bit in `ESC`, nothing until S1 writes it, and S1 builds with it. -/
theorem escrowBitFeedsTheNextFrame : Obligations.EscrowBitFeedsTheNextFrame := by
  intro s hwf hcnt hp hrun hs
  exact ⟨_, (buildOutboundFrame s.cfg s.hs (escrowBit s.stateB))[4], steps_report_to_build hs hp hcnt hrun 0, rfl, rfl,
    (buildOutboundFrame_escrow_iff hwf _ _).trans (hasBit_iff _ _)⟩

/-! ## The whole cycle -/

/-- CYCLE of an empty drain (R114). -/
theorem cycle_of_empty (cfg : Cfg) (hs : Bool) (last : Option Composite) (cnt : Vector Nat 8) (esc1 v8 : Bool) :
    cycle cfg hs last cnt esc1 [] v8 = ⟨!hs, esc1, last, cnt, (buildOutboundFrame cfg hs esc1).toList, []⟩ := rfl

/-- CYCLE of a short buffer (R114). -/
theorem cycle_of_short {rx : List Byte} (hne : rx ≠ []) (hshort : rx.length < 6) (cfg : Cfg) (hs : Bool)
    (last : Option Composite) (cnt : Vector Nat 8) (esc1 v8 : Bool) :
    cycle cfg hs last cnt esc1 rx v8 = ⟨!hs, esc1, last, cnt, (buildOutboundFrame cfg hs esc1).toList,
      [.diagnostic (.frameTooShort rx.length)]⟩ := by
  have hlen : rx.length ≠ 0 := fun h => hne (List.length_eq_zero_iff.mp h)
  rw [cycle, if_neg hlen, if_pos hshort]

/-- CYCLE of a whole reply (R114) is what the phases from S0 to S9 leave behind. -/
theorem cycle_of_long {s t : State} (hlong : 6 ≤ s.rxq.length)
    (ht : t = afterReport (afterS5 (afterS4Read (afterSend s)))) :
    let r := cycle s.cfg s.hs s.last s.cnt s.esc s.rxq s.verbose
    t.hs = r.hs ∧ t.esc = r.esc ∧ t.last = r.last ∧ t.cnt = r.cnt ∧ t.txs = s.txs ++ r.sent
      ∧ t.out = s.out ++ r.events := by
  have hlen : s.rxq.length ≠ 0 := by omega
  have hreceived : received (afterS4Read (afterSend s)).mem = s.rxq := received_loadRx _ _
  rw [cycle, if_neg hlen, if_neg (Nat.not_lt.mpr hlong), ht]
  simp only [afterReport, reportEvents, afterS5, hreceived]
  exact ⟨rfl, rfl, rfl, rfl, rfl, rfl⟩

/-- The number of steps of a cycle whose drain is not empty (R100). -/
theorem cycleSteps_of_ne_nil {rx : List Byte} (h : rx ≠ []) :
    cycleSteps rx.length = if rx.length < 6 then 7 else 11 :=
  if_neg fun hlen => h (List.length_eq_zero_iff.mp hlen)

/-- Settles O51, by what S4 finds: nothing, a short buffer, or a whole reply. -/
theorem phasesComputeTheCycleFunction : Obligations.PhasesComputeTheCycleFunction := by
  intro s hwf hcnt hdepth hp hrun hs hwrite havail hread
  obtain hempty | hne := eq_or_ne s.rxq []
  · have hsteps : steps 6 s = .next (afterS10 (afterS4Empty (afterSend s))) := calc
      steps 6 s = steps 2 (afterSend s) := steps_send hs hp hrun hwrite _
      _ = steps 1 (afterS4Empty (afterSend s)) :=
        steps_succ_of_idle (s := afterSend s) hs rfl (exec_s4_of_empty havail hempty) _
      _ = steps 0 (afterS10 (afterS4Empty (afterSend s))) := steps_sleep (s := afterS4Empty (afterSend s)) hs rfl _
    rw [hempty, cycle_of_empty]
    exact ⟨_, hsteps, rfl, rfl, rfl, rfl, rfl, rfl, (List.append_nil _).symm, hempty, rfl, rfl, rfl, rfl, rfl⟩
  have hdrain (n : Nat) : steps (n + 5) s = steps n (afterS4Read (afterSend s)) := calc
    steps (n + 5) s = steps (n + 1) (afterSend s) := steps_send hs hp hrun hwrite _
    _ = steps n (afterS4Read (afterSend s)) :=
      steps_succ_of_idle (s := afterSend s) hs rfl (exec_s4_of_read havail hne hread hdepth) _
  have hreceived : received (afterS4Read (afterSend s)).mem = s.rxq := received_loadRx _ _
  rw [cycleSteps_of_ne_nil hne]
  obtain hshort | hlong := Nat.lt_or_ge s.rxq.length 6
  · have hsteps : steps 7 s = .next (afterS10 (afterS5Short (afterS4Read (afterSend s)))) := calc
      steps 7 s = steps 2 (afterS4Read (afterSend s)) := hdrain _
      _ = steps 1 (afterS5Short (afterS4Read (afterSend s))) :=
        steps_succ_of_idle (s := afterS4Read (afterSend s)) hs rfl (exec_s5_of_lt (hreceived.symm ▸ hshort)) _
      _ = steps 0 (afterS10 (afterS5Short (afterS4Read (afterSend s)))) :=
        steps_sleep (s := afterS5Short (afterS4Read (afterSend s))) hs rfl _
    have hout : (afterS5Short (afterS4Read (afterSend s))).out
        = s.out ++ [.diagnostic (.frameTooShort s.rxq.length)] := by
      rw [afterS5Short, hreceived]
      rfl
    rw [if_pos hshort, cycle_of_short hne hshort]
    exact ⟨_, hsteps, rfl, rfl, rfl, rfl, rfl, rfl, hout, rfl, rfl, rfl, rfl, rfl, rfl⟩
  · have hsteps : steps 11 s = .next (afterS10 (afterReport (afterS5 (afterS4Read (afterSend s))))) := calc
      steps 11 s = steps 6 (afterS4Read (afterSend s)) := hdrain _
      _ = steps 5 (afterS5 (afterS4Read (afterSend s))) :=
        steps_succ_of_idle (s := afterS4Read (afterSend s)) hs rfl (exec_s5_of_le hwf (hreceived.symm ▸ hlong)) _
      _ = steps 1 (afterReport (afterS5 (afterS4Read (afterSend s)))) :=
        steps_report (s := afterS5 (afterS4Read (afterSend s))) hs rfl hcnt _
      _ = steps 0 (afterS10 (afterReport (afterS5 (afterS4Read (afterSend s))))) :=
        steps_sleep (s := afterReport (afterS5 (afterS4Read (afterSend s)))) hs rfl _
    obtain ⟨hhs, hesc, hlast, hcnt', htxs, hout⟩ := cycle_of_long hlong rfl
    rw [if_neg (Nat.not_lt.mpr hlong)]
    exact ⟨_, hsteps, rfl, hhs, hesc, hlast, hcnt', htxs, hout, rfl, rfl, rfl, rfl, rfl, rfl⟩

end Sys2Proof.Machine

/-! A SET_ESCROW_INTENT that lands after S6 and before S1 decides the next frame (43_host_interface.md R121,
70_reset_and_hazards.md R167). Between those phases only the host writes `ESC`, so the intent stands until S1 builds
with it; and every turn brings the run nearer to S2, unless a stop leads it to EXIT. -/

namespace Sys2Proof.Machine

/-! ## The phases between S6 and S2 -/

/-- How many phases away S2 is, from a phase in which an intent can land; 0 for every other phase. -/
def phasesToS2 : Phase → Nat
  | .s7 => 6
  | .s8 => 5
  | .s9 => 4
  | .s10 => 3
  | .s0 => 2
  | .s1 => 1
  | _ => 0

/-- An intent can land exactly where S2 is still ahead. -/
theorem phasesToS2_pos_iff (p : Phase) : 0 < phasesToS2 p ↔ p ∈ [Phase.s7, .s8, .s9, .s10, .s0, .s1] := by
  cases p <;> decide

/-- The worker's operation in such a phase writes neither `HS`, `ESC`, `RUN` nor `Cfg`, and comes nearer to S2, leaves
for EXIT because of a stop, or is S1 and builds the frame. -/
theorem worker_towards_s2 {s t : State} (hp : 0 < phasesToS2 s.phase)
    (h : exec (operationOf s.phase) s = .next t) :
    t = { s with
        last := t.last, cnt := t.cnt, out := t.out, mem := t.mem, cycleT := t.cycleT, phase := t.phase }
      ∧ (0 < phasesToS2 t.phase ∧ phasesToS2 t.phase < phasesToS2 s.phase
        ∨ t.phase = .exit ∧ s.run = false
        ∨ t.phase = .s2 ∧ t.mem = loadTx (buildOutboundFrame s.cfg s.hs s.esc) s.mem) := by
  cases hphase : s.phase <;> rw [hphase] at hp <;> rw [hphase, operationOf] at h
  case s2 | s3 | s4 | s5 | s6 | exit | stopped | faulted => exact absurd hp (by decide)
  case s0 =>
    rw [exec_s0] at h
    cases h
    cases hrun : s.run
    · exact ⟨rfl, .inr (.inl ⟨rfl, rfl⟩)⟩
    · exact ⟨rfl, .inl (by simp [phasesToS2])⟩
  case s1 =>
    rw [exec_s1] at h
    cases h
    exact ⟨rfl, .inr (.inr ⟨rfl, rfl⟩)⟩
  case s7 =>
    rw [exec_s7_eq] at h
    cases h
    exact ⟨rfl, .inl (by simp [phasesToS2, afterS7])⟩
  case s8 =>
    rw [exec_s8] at h
    cases h
    exact ⟨rfl, .inl (by simp [phasesToS2])⟩
  case s9 =>
    rw [exec_s9] at h
    split_ifs at h <;> cases h <;> exact ⟨rfl, .inl (by simp [phasesToS2])⟩
  case s10 =>
    rw [exec_s10] at h
    cases h
    exact ⟨rfl, .inl (by simp [phasesToS2])⟩

/-- A session that leaves for EXIT, or has ended, does not come back to S2. -/
def Leaving (s : State) : Prop := s.phase = .exit ∨ s.phase.isTerminal = true

/-- Every step keeps a session from coming back. -/
theorem Leaving.of_step {s t : State} (hs : Leaving s) (hstep : step s = .next t) : Leaving t := by
  obtain ⟨ts, -, hexec⟩ | hmove := step_worker_or_move hstep
  · obtain hexit | hend := hs
    · rw [hexit, operationOf, exec_exit] at hexec
      split_ifs at hexec <;> cases hexec
      · rw [fatalPath_eq]
        exact .inr rfl
      · exact .inr rfl
    · obtain ⟨-, hfinal⟩ := endedSessionsStayEnded
      have hsame := hfinal s t hend hstep
      exact .inr ((congrArg (Phase.isTerminal ∘ State.phase) hsame :).trans hend)
  · rw [Leaving, hmove.phase_eq]
    exact hs

/-! ## What the host still has to issue -/

/-- No code of `bad` is among those the host's scheduled turns can issue. -/
def HostAvoids (bad : List (BitVec 3)) (s : State) : Prop :=
  ∀ c ∈ s.hostQ.take (s.sched.count .host), c ∉ bad

/-- Fewer turns issue fewer codes. -/
theorem HostAvoids.of_count_le {bad : List (BitVec 3)} {s t : State} (hs : HostAvoids bad s) (hq : t.hostQ = s.hostQ)
    (hcount : t.sched.count .host ≤ s.sched.count .host) : HostAvoids bad t := by
  intro c hc
  rw [hq] at hc
  exact hs c ((List.take_prefix_take_left hcount).subset hc)

/-- A turn that issues a code takes the head of what the host can issue. -/
theorem HostAvoids.of_issue {bad : List (BitVec 3)} {s t : State} {c : BitVec 3} (hs : HostAvoids bad s)
    (hsched : s.sched = .host :: t.sched) (hq : s.hostQ = c :: t.hostQ) : c ∉ bad ∧ HostAvoids bad t := by
  rw [HostAvoids, hsched, hq, List.count_cons_self, List.take_succ_cons, List.forall_mem_cons] at hs
  exact hs

/-- Other agents' moves keep it. -/
theorem HostAvoids.of_move {bad : List (BitVec 3)} {s t : State} (hs : HostAvoids bad s) (h : AgentMove s t) :
    HostAvoids bad t := by
  obtain ⟨-, -, hq⟩ | ⟨c, hsched, hq, -, -⟩ := h.command
  · obtain ⟨tn, hsched⟩ := h.sched
    exact hs.of_count_le hq (hsched ▸ List.count_le_count_cons)
  · exact (hs.of_issue hsched hq).2

/-! ## The intent up to S2 -/

/-- The intent stands: S2 is ahead, `ESC` is the intent's argument, and the host issues no other intent. -/
structure Intended (a : Bool) (s : State) : Prop where
  wf : s.cfg.wf = true
  ahead : 0 < phasesToS2 s.phase
  esc : s.esc = a
  host : HostAvoids [0b000, 0b001] s

/-- How many turns S2 can still take: the phases ahead and the turns scheduled. -/
def turnsToS2 (s : State) : Nat := phasesToS2 s.phase + s.sched.length

/-- The frame in `TXBUF` has the escrow-control bit `a`. -/
def FrameSays (a : Bool) (t : State) : Prop :=
  ∃ b, readTx t.mem 4 = some b ∧ (b &&& 0x20 ≠ 0 ↔ a = true)

/-- A turn that is not the worker's uses up a turn and leaves the intent. -/
theorem Intended.of_move {a : Bool} {s t : State} (hs : Intended a s) (h : AgentMove s t) :
    Intended a t ∧ turnsToS2 t < turnsToS2 s := by
  constructor
  · refine ⟨h.cfg_eq ▸ hs.wf, h.phase_eq ▸ hs.ahead, ?_, hs.host.of_move h⟩
    obtain ⟨hesc, -, -⟩ | ⟨c, hsched, hq, hesc, -⟩ := h.command
    · exact hesc.trans hs.esc
    · exact (hesc (hs.host.of_issue hsched hq).1).trans hs.esc
  · obtain ⟨tn, hsched⟩ := h.sched
    rw [turnsToS2, turnsToS2, h.phase_eq, hsched, List.length_cons]
    omega

/-- A step from where the intent stands leads to where it stands, fewer turns from S2; or out to EXIT by a stop; or to
S2 with a frame that carries it. -/
theorem Intended.of_step {a : Bool} {s t : State} (hs : Intended a s) (hstep : step s = .next t) :
    Intended a t ∧ turnsToS2 t < turnsToS2 s ∨ t.phase = .exit ∧ s.run = false
      ∨ t.phase = .s2 ∧ FrameSays a t := by
  obtain ⟨ts, hturn, hexec⟩ | hmove := step_worker_or_move hstep
  · obtain ⟨hframe, ⟨hahead, hnear⟩ | hexit | ⟨hs2, hmem⟩⟩ :=
      worker_towards_s2 (s := { s with sched := ts }) hs.ahead hexec
    · have hts : ts.count .host ≤ s.sched.count .host ∧ ts.length ≤ s.sched.length := by
        obtain ⟨hnil, rfl⟩ | hcons := hturn
        · simp
        · simp [hcons]
      obtain ⟨hcount, hlength⟩ := hts
      have hsched : t.sched = ts := (congrArg State.sched hframe :)
      refine .inl ⟨⟨(congrArg (Cfg.wf ∘ State.cfg) hframe :).trans hs.wf, hahead,
        (congrArg State.esc hframe :).trans hs.esc,
        hs.host.of_count_le (congrArg State.hostQ hframe :) (hsched ▸ hcount)⟩, ?_⟩
      rw [turnsToS2, turnsToS2, hsched]
      exact Nat.add_lt_add_of_lt_of_le hnear hlength
    · exact .inr (.inl hexit)
    · refine .inr (.inr ⟨hs2, (buildOutboundFrame s.cfg s.hs s.esc)[4], ?_, ?_⟩)
      · rw [hmem]
        rfl
      · rw [buildOutboundFrame_escrow_iff hs.wf, hs.esc]
  · exact .inl (hs.of_move hmove)

/-! ## The first visit to S2 -/

/-- `t` is the first state at S2 of the run from `s`, after `n` steps. -/
def FirstAtS2 (s : State) (n : Nat) (t : State) : Prop :=
  steps n s = .next t ∧ t.phase = .s2 ∧ ∀ m u, m < n → steps m s = .next u → u.phase ≠ .s2

/-- The first visit to S2 from a state that is not there is the one from the next state, one step later. -/
theorem firstAtS2_succ_iff {s s' : State} (hs : s.phase ≠ .s2) (hstep : step s = .next s') (n : Nat) (t : State) :
    FirstAtS2 s (n + 1) t ↔ FirstAtS2 s' n t := by
  rw [FirstAtS2, FirstAtS2, steps_succ_of_next hstep]
  refine and_congr_right fun _ => and_congr_right fun _ => ⟨fun h m u hm hu => ?_, fun h m u hm hu => ?_⟩
  · exact h (m + 1) u (Nat.succ_lt_succ hm) ((steps_succ_of_next hstep m).trans hu)
  · cases m with
    | zero =>
      cases hu
      exact hs
    | succ m => exact h m u (Nat.lt_of_succ_lt_succ hm) ((steps_succ_of_next hstep m).symm.trans hu)

/-- A run of more than no steps has a first one. -/
theorem exists_step_of_steps_succ {n : Nat} {s t : State} (h : steps (n + 1) s = .next t) :
    ∃ s', step s = .next s' := by
  cases hstep : step s with
  | next s' => exact ⟨s', rfl⟩
  | fault r =>
    have h' : Sys2Proof.core.step s = .fault r := hstep
    simp [steps, Host.Core.run, h'] at h
  | refused r =>
    have h' : Sys2Proof.core.step s = .refused r := hstep
    simp [steps, Host.Core.run, h'] at h

/-- A leaving session never reaches S2. -/
theorem not_firstAtS2_of_leaving {n : Nat} {s t : State} (hs : Leaving s) : ¬ FirstAtS2 s n t := by
  have hoff {u : State} (hu : Leaving u) : u.phase ≠ .s2 := by
    rintro hp
    rw [Leaving, hp] at hu
    exact hu.elim (fun h => nomatch h) (fun h => nomatch h)
  induction n generalizing s with
  | zero =>
    rintro ⟨hsteps, hp, -⟩
    cases hsteps
    exact hoff hs hp
  | succ n ih =>
    intro h
    have ⟨hsteps, _⟩ := h
    obtain ⟨s', hstep⟩ := exists_step_of_steps_succ hsteps
    exact ih (hs.of_step hstep) ((firstAtS2_succ_iff (hoff hs) hstep n t).mp h)

/-- An intent that stands is what the first frame built at S2 says. -/
theorem frameSays_of_firstAtS2 {a : Bool} {n : Nat} {s t : State} (hs : Intended a s) (h : FirstAtS2 s n t) :
    FrameSays a t := by
  have hoff {u : State} (hu : Intended a u) : u.phase ≠ .s2 := fun hp => absurd (hp ▸ hu.ahead) (by decide)
  induction n generalizing s with
  | zero =>
    obtain ⟨hsteps, hp, -⟩ := h
    cases hsteps
    exact absurd hp (hoff hs)
  | succ n ih =>
    have ⟨hsteps, _⟩ := h
    obtain ⟨s', hstep⟩ := exists_step_of_steps_succ hsteps
    have h' := (firstAtS2_succ_iff (hoff hs) hstep n t).mp h
    obtain ⟨hs', -⟩ | ⟨hexit, -⟩ | ⟨hs2, hframe⟩ := hs.of_step hstep
    · exact ih hs' h'
    · exact absurd h' (not_firstAtS2_of_leaving (.inl hexit))
    · obtain ⟨hsteps, -, hfirst⟩ := h'
      cases n with
      | zero =>
        cases hsteps
        exact hframe
      | succ n => exact absurd hs2 (hfirst 0 s' (Nat.succ_pos n) rfl)

/-! ## Reaching S2 -/

/-- Nothing stops the run: `RUN` is 1 and no stop is to be issued, no counter is finite, every scheduled turn is an
agent's. -/
structure Unstopped (s : State) : Prop where
  run : s.run = true
  cnt : s.cfg.cntW = none
  turns : ∀ p bs, .operate p bs ∉ s.sched
  host : HostAvoids [0b100, 0b101] s

/-- A step from where the intent stands does not bring a stop about. -/
theorem Unstopped.of_step {a : Bool} {s t : State} (hs : Unstopped s) (ha : Intended a s) (hstep : step s = .next t) :
    Unstopped t := by
  obtain ⟨ts, hturn, hexec⟩ | hmove := step_worker_or_move hstep
  · obtain ⟨hframe, -⟩ := worker_towards_s2 (s := { s with sched := ts }) ha.ahead hexec
    have hts : ts.count .host ≤ s.sched.count .host ∧ ts ⊆ s.sched := by
      obtain ⟨hnil, rfl⟩ | hcons := hturn
      · simp
      · simp [hcons]
    obtain ⟨hcount, hsub⟩ := hts
    have hsched : t.sched = ts := (congrArg State.sched hframe :)
    exact ⟨(congrArg State.run hframe :).trans hs.run, (congrArg (Cfg.cntW ∘ State.cfg) hframe :).trans hs.cnt,
      fun p bs hmem => hs.turns p bs (hsub (hsched ▸ hmem)),
      hs.host.of_count_le (congrArg State.hostQ hframe :) (hsched ▸ hcount)⟩
  · obtain ⟨tn, hsched⟩ := hmove.sched
    refine ⟨?_, hmove.cfg_eq ▸ hs.cnt, fun p bs hmem => hs.turns p bs (hsched ▸ List.mem_cons_of_mem tn hmem),
      hs.host.of_move hmove⟩
    obtain ⟨-, hrun, -⟩ | ⟨c, hhost, hq, -, hrun⟩ := hmove.command
    · exact hrun.trans hs.run
    · exact (hrun (hs.host.of_issue hhost hq).1).trans hs.run

/-- Where an intent stands and nothing stops the run, the next step completes. -/
theorem Unstopped.step_completes {a : Bool} {s : State} (hs : Unstopped s) (ha : Intended a s) :
    ∃ t, step s = .next t := by
  refine Machine.step_completes (fun p bs ts h => hs.turns p bs (h ▸ List.mem_cons_self)) fun ts => ?_
  refine worker_completes (s := { s with sched := ts }) hs.cnt fun hp => ?_
  have hahead := ha.ahead
  rw [show s.phase = .s4 from hp] at hahead
  exact absurd hahead (by decide)

/-- Where an intent stands and nothing stops the run, S2 is reached, in at most `turnsToS2` steps. -/
theorem exists_firstAtS2 {a : Bool} (k : Nat) : ∀ s : State, turnsToS2 s ≤ k → Intended a s → Unstopped s →
    ∃ n t, FirstAtS2 s n t := by
  induction k with
  | zero =>
    intro s hk ha _
    have := ha.ahead
    rw [turnsToS2] at hk
    omega
  | succ k ih =>
    intro s hk ha hs
    obtain ⟨t, hstep⟩ := hs.step_completes ha
    have hoff : s.phase ≠ .s2 := fun hp => absurd (hp ▸ ha.ahead) (by decide)
    obtain ⟨ha', hless⟩ | ⟨-, hstop⟩ | ⟨hs2, -⟩ := ha.of_step hstep
    · obtain ⟨n, u, hfirst⟩ := ih t (by omega) ha' (hs.of_step ha hstep)
      exact ⟨n + 1, u, (firstAtS2_succ_iff hoff hstep n u).mpr hfirst⟩
    · exact absurd (hstop.symm.trans hs.run) Bool.false_ne_true
    · have hhere : FirstAtS2 t 0 t := ⟨rfl, hs2, fun m _ hm _ => absurd hm (Nat.not_lt_zero m)⟩
      exact ⟨1, t, (firstAtS2_succ_iff hoff hstep 0 t).mpr hhere⟩

/-- Settles O40: the host's turn leaves a state in which the intent stands. -/
theorem hostIntentReachesTheNextFrame : Obligations.HostIntentReachesTheNextFrame := by
  intro s a ts q hwf hp hw hsched hq hquiet firstAtS2
  let s' : State := { s with sched := ts, hostQ := q, esc := a }
  have hcode : commandOf (if a then 0b001 else 0b000) = .setEscrowIntent a := by cases a <;> rfl
  have hstep : step s = .next s' := by rw [step_host hsched hw hq, hcode, exec_setEscrowIntent]
  have hahead := (phasesToS2_pos_iff s.phase).mpr hp
  have hoff : s.phase ≠ .s2 := fun h => absurd (h ▸ hahead) (by decide)
  have hintended : Intended a s' := ⟨hwf, hahead, rfl, fun c hc => by simpa using hquiet c hc⟩
  constructor
  · intro n t hfirst
    cases n with
    | zero =>
      obtain ⟨hsteps, hs2, -⟩ := hfirst
      cases hsteps
      exact absurd hs2 hoff
    | succ n => exact frameSays_of_firstAtS2 hintended ((firstAtS2_succ_iff hoff hstep n t).mp hfirst)
  · intro hrun hcnt hturns hstops
    have hunstopped : Unstopped s' := ⟨hrun, hcnt, hturns, fun c hc => by simpa using hstops c hc⟩
    obtain ⟨n, t, hfirst⟩ := exists_firstAtS2 _ s' (Nat.le_refl _) hintended hunstopped
    exact ⟨n + 1, t, (firstAtS2_succ_iff hoff hstep n t).mpr hfirst⟩

end Sys2Proof.Machine
